-- ==== Sys2Proof/Word.lean ====
section
/-!
DEFINITION. The word types of the station: the bit fields that the manual itself treats as bits, and the numbers
by which stations, entries, channels, trigger inputs and markers are named (0.7, 0.8, Table 3).
-/

namespace Sys2Proof

/-- One byte of the line or of the local port (R178, R193). -/
abbrev Byte := BitVec 8

/-- A round number, 0 to 65535, counted modulo 65536 (R3). -/
abbrev Round := BitVec 16

/-- A set of stations: bit n stands for station n (R193, R194). -/
abbrev StationSet := BitVec 16

/-- A set of channels: bit n stands for channel n (R194). -/
abbrev ChannelMask := BitVec 8

/-- A set of markers: bit 0 is MK0, bit 1 is MK1 (Table 50). -/
abbrev MarkerMask := BitVec 2

/-- A set of the eight events, as the event byte of Table 49. -/
abbrev EventSet := BitVec 8

/-- A 16-bit counter (R35, R114, R150). -/
abbrev Counter := BitVec 16

/-- A station number, 0 to 15 (R5). -/
abbrev Station := Fin 16

/-- An index into the rendezvous table, 0 to 15 (R76). -/
abbrev EntryIndex := Fin 16

/-- A pulse channel, 0 to 7 (R146). -/
abbrev ChannelIndex := Fin 8

/-- A trigger input, 0 to 3 (R167). -/
abbrev InputIndex := Fin 4

/-- A marker output, 0 or 1 (R170). -/
abbrev MarkerIndex := Fin 2

end Sys2Proof
end

