-- ==== Sys2Proof/Syntax.lean ====
section
/-!
DEFINITION. The commands of the block: one constructor of `Instr` for every row of spec/opcode_table.json, with the
operands that the rules of the row name.
-/

namespace Sys2Proof

/-- One of the four line rates (R1, Table 6). -/
inductive LineRate where
  | mbit1
  | mbit2p5
  | mbit5
  | mbit10
  deriving DecidableEq, Repr

/-- What the line pair shows in one beat: its level in the first half and in the second half of the beat (R193).
A beat whose halves are equal carries no mid-beat transition: it is silent (R20). -/
structure LineBeat where
  first : Bool
  second : Bool
  deriving DecidableEq, Repr

/-- A stretch of activity on LRX that has ended: where its first beat fell in local line time (R8), how many silent
beats stood before it, the line rate it was sent at (R1), its beats from the first one on (R20), whether it began before
the round timer's latest jump or restart (R27), and whether any of it fell into an own transmission: begun before it or
during it, and ended behind it (R33). -/
structure Reception where
  startRound : Round
  startSlot : Station
  startBeat : Nat
  quietBefore : Nat
  rate : LineRate
  beats : List LineBeat
  beforeJump : Bool
  meetsOwn : Bool
  deriving DecidableEq, Repr

/-- The reactions to one round boundary that the manual leaves free to be taken in any order (R6, R29, R34, R52, R72,
R122 to R124, R140, R141): the frame receiver forms the view, the peer table closes the round, the line controller
evaluates the round, the rendezvous table expires and fires, and, for station 0, the frame builder assembles. -/
inductive BoundaryReaction where
  | view
  | peers
  | line
  | table
  | assembly
  deriving DecidableEq, Repr

/-- The commands, one for each row of the table. -/
inductive Instr where
  /-- RESETN goes low, or power is applied (R14, R60, R184). -/
  | resetnLow
  /-- RESETN is released, with these levels on SN0 to SN3 (bit n is SNn) and PCS low or high (R5, R14, R177). -/
  | resetnRelease (straps : BitVec 4) (pcsLow : Bool)
  /-- Beat 0 of the next slot is reached (R6, R9); `order` is the order in which the channels take the changes of one
  skipped beat (R154 leaves it open). -/
  | slotOpens (order : List ChannelIndex)
  /-- Beat 0 of the own slot is reached (R6, R29). -/
  | ownSlotOpens
  /-- Beat 32 of the own slot is reached (R30). -/
  | sendOffset
  /-- The last CRC beat of the own frame completes; `heard` is what LRX carried meanwhile (R32, R33). -/
  | ownFrameEnd (heard : List LineBeat)
  /-- A frame from another station ends (R21 to R27). For a good LEAVE frame, `noticeFirst` says whether the loss
  notice or the arrival entries reach the rendezvous table first (R121). -/
  | frameEnd (rx : Reception) (noticeFirst : Bool)
  /-- Line activity ends in LISTEN (R25, R40). -/
  | lineActivityEnd (rx : Reception)
  /-- The listen timer reaches 0 (R42). -/
  | listenTimerExpiry
  /-- The end of slot N − 1 is reached (R6); `order` is the order of the blocks' reactions, or of those of them that are
  taken before another event of the same instant: further commands of the row then take the rest (log entry 3). -/
  | roundBoundary (order : List BoundaryReaction)
  /-- A sample of one trigger input differs from its sampled level (R167). -/
  | triggerEdge (input : InputIndex) (high : Bool)
  /-- A channel's phase remaining reaches 0 (R149). -/
  | phaseWaitEnd (channel : ChannelIndex)
  /-- A channel's position reaches its high time (R150). -/
  | highToLowChange (channel : ChannelIndex)
  /-- A channel's position reaches its period (R150). -/
  | periodEnd (channel : ChannelIndex)
  /-- A marker's remaining length reaches 0 (R170). -/
  | markerPulseEnd (marker : MarkerIndex)
  /-- PCS falls (R178). -/
  | transactionStart
  /-- A command byte that names no command is received (R179). -/
  | badCommand (byte : Byte)
  /-- CONFIGURE with its four argument bytes (R186, Table 49). -/
  | configure (args : List Byte)
  /-- RESET (R191). -/
  | reset
  /-- READ STATUS (R188). -/
  | readStatus
  /-- READ COUNTERS (R189). -/
  | readCounters
  /-- JOIN (R38). -/
  | join
  /-- LEAVE (R54). -/
  | leave
  /-- LOAD with the index and the twelve bytes of the loaded record (R81, Table 50). -/
  | load (index : Byte) (record : List Byte)
  /-- ARM (R84). -/
  | arm (index : Byte)
  /-- ARRIVE (R105). -/
  | arrive (index : Byte)
  /-- CANCEL (R88). -/
  | cancel (index : Byte)
  /-- POP (R95). -/
  | pop
  /-- READ ENTRY (R97). -/
  | readEntry (index : Byte)
  /-- STAGE with the channel, the index and the eleven bytes of the channel set (R157, Table 51). -/
  | stage (channel index : Byte) (set : List Byte)
  /-- UNSTAGE (R158). -/
  | unstage (channel index : Byte)
  /-- READ CHANNEL (R165). -/
  | readChannel (channel : Byte)
  /-- TAKE EVENTS (R174). -/
  | takeEvents
  /-- PCS rises (R182). -/
  | transactionEnd
  /-- PCK rises, with this bit on PDI (R178). -/
  | pckRisingEdge (pdi : Bool)
  /-- The trigger inputs are sampled (R167): the samples in the order in which the edges they make are taken (R168). -/
  | triggerSample (samples : List (InputIndex × Bool))
  deriving DecidableEq, Repr

end Sys2Proof
end

