-- ==== Sys2Proof/Decode.lean ====
section
/-!
DEFINITION. The decoder of the opcode table's words. spec/opcode_table.json gives bits to none of its 36 rows, so no
word spells a command (log entry 28). The bytes by which a controller names a command on the local port are another
matter: they are taken bit by bit by PCK_RISING_EDGE (Machine/Port.lean).
-/

namespace Sys2Proof

/-- The command that a word spells by the table's bits: none, since the table gives bits to no row. -/
def decodeTableWord (_nbits _w : Nat) : Option Instr :=
  none

end Sys2Proof
end

