-- ==== Sys2Proof/Config.lean ====
section
/-!
DEFINITION. The constants of the station, each with the rule that gives it, and the FREE VALUES: choices that the
manual leaves open when no command makes them. The free values are opaque: nothing can be proved of which value they
have (log entry 7).
-/

namespace Sys2Proof.Config

/-- A slot lasts 512 beats (R2). -/
def slotBeats : Nat := 512

/-- The own frame's start mark begins at beat 32 of the own slot (R7). -/
def sendOffset : Nat := 32

/-- The receive window opens at beat 16 (R8). -/
def windowFirst : Nat := 16

/-- The last beat of the receive window is beat 48 (R8). -/
def windowLast : Nat := 48

/-- A start mark is recognised after at least 8 silent beats (R20). -/
def quietBeats : Nat := 8

/-- A frame holds at most 8 arrival entries (R18, R29). -/
def maxArrivals : Nat := 8

/-- The fourth COLD frame ends a cold start (R47). -/
def coldFrames : Nat := 4

/-- Two exclusions in a row lead to PASSIVE (R52). -/
def exclusionLimit : Nat := 2

/-- PASSIVE lasts eight round boundaries (R53). -/
def passiveRounds : Nat := 8

/-- A staged queue holds at most 4 pairs (R156). -/
def stagedCapacity : Nat := 4

/-- A marker pulse lasts 512 beats (R170). -/
def markerBeats : Nat := 512

/-- The silence count stays at 7 once there (R62). -/
def maxSilence : Nat := 7

/-- The round size after a hardware reset (R2, Table 40). -/
def defaultSize : Nat := 4

/-- The line rate after a hardware reset (R1, Table 40). -/
def defaultRate : LineRate := .mbit5

/-- The loss limit after a hardware reset (R62, Table 40). -/
def defaultLossLimit : Nat := 3

/-- The default lead after a hardware reset (Table 40). -/
def defaultLead : BitVec 4 := 3#4

/-- The attention mask after a hardware reset: all eight events (R173). -/
def defaultMask : EventSet := 0xFF#8

/-- FREE VALUE (log entry 7): which of the events due at one instant is taken first, when no command says so. The
blocks' reactions to a round boundary are such events. -/
opaque nextEvent : Nat → Nat

/-- FREE VALUE (log entries 5 and 7): in which order the channels take the changes of one skipped beat at a slot
opening that the station's own time brings about. -/
opaque channelOrder : Nat → List ChannelIndex

/-- FREE VALUE (log entries 7 and 14): what LRX carried during the own frame, when the station's own time brings about
the frame's end and no command has said it. -/
opaque lineHeard : Nat → List LineBeat

end Sys2Proof.Config
end

