-- ==== Sys2Proof/Machine/State.lean ====
section
/-!
DEFINITION. The state of the station as plain data, block by block, with its value at reset, and the reasons a step
could stop (there are none). INVENTORY.md lists every field with the rule that names it.
-/

namespace Sys2Proof.Machine

/-! ### Line time and configuration -/

/-- The configuration record (R185, Table 40). -/
structure Settings where
  size : Nat
  rate : LineRate
  lossLimit : Nat
  defaultLead : BitVec 4
  mask : EventSet
  deriving DecidableEq, Repr

/-- The frame receiver's records of one round (R23): the good senders, the foreign senders and the transmitted mark. -/
structure RoundRecords where
  good : StationSet
  foreign : StationSet
  mark : Bool
  deriving DecidableEq, Repr

/-- The round boundary that falls at the present instant (R6): the round that opens, the blocks' reactions that have not
been taken yet, and the records of the closing round once they are handed over (R23). The model's own (log entries 3
and 4). -/
structure Boundary where
  opening : Round
  due : List BoundaryReaction
  records : Option RoundRecords
  deriving DecidableEq, Repr

/-- The round timer (R5). `boundary`, `opening` and `ownOpening` are the model's own: the round boundary of the present
instant, and whether a slot opens or an own slot opens event falls at this instant and has not been taken yet (log
entry 4). -/
structure RoundTimer where
  round : Round
  slot : Station
  beat : Nat
  correction : Option Int
  rate : LineRate
  size : Nat
  station : Station
  boundary : Option Boundary
  opening : Bool
  ownOpening : Bool
  deriving DecidableEq, Repr

/-! ### Frames -/

/-- The kinds of frame (R17). -/
inductive FrameKind where
  | sync
  | cold
  | leave
  deriving DecidableEq, Repr

/-- An arrival entry of a frame (R19). -/
structure ArrivalEntry where
  number : BitVec 6
  epoch : BitVec 8
  lead : BitVec 4
  announce : Round
  deriving DecidableEq, Repr

/-- The contents of a frame (R18, R19), without the spare bits and the CRC. -/
structure Frame where
  kind : FrameKind
  sender : Station
  round : Round
  view : StationSet
  arrivals : List ArrivalEntry
  deriving DecidableEq, Repr

/-- The assembled own frame that waits for beat 32 (R29), with the entries it names that are still members of the
announce queue (R30) and the entries in carriage (R29). -/
structure OwnFrame where
  frame : Frame
  named : List EntryIndex
  carriage : List EntryIndex
  deriving DecidableEq, Repr

/-- The own frame in transmission: its kind, its bytes after the start mark and the beats already sent (R30, R32). -/
structure Transmission where
  kind : FrameKind
  bytes : List Byte
  elapsed : Nat
  deriving DecidableEq, Repr

/-- The announce queue in its two parts, head first (R28). -/
structure AnnounceQueue where
  uncarried : List EntryIndex
  carried : List EntryIndex
  deriving DecidableEq, Repr

/-- The frame builder, the line port and the frame receiver (R23, R28 to R34). `mark` is the transmitted mark. -/
structure FrameLayer where
  announce : AnnounceQueue
  assembled : Option OwnFrame
  transmitting : Option Transmission
  good : StationSet
  foreign : StationSet
  mark : Bool
  view : StationSet
  deriving DecidableEq, Repr

/-- The six counters (R35, R114, R189). -/
structure Counters where
  good : Counter
  bad : Counter
  foreign : Counter
  sent : Counter
  readBack : Counter
  conflicts : Counter
  deriving DecidableEq, Repr

/-! ### Line controller and peers -/

/-- The states of the line controller (R37). -/
inductive LineState where
  | offline
  | listen
  | coldstart
  | integrating
  | active
  | passive
  deriving DecidableEq, Repr

/-- The line controller (R37). `listen` is the listen timer: none while it is stopped. -/
structure LineController where
  state : LineState
  leavePending : Bool
  listen : Option Nat
  coldSent : Nat
  excluded : Nat
  hold : Nat
  alone : Bool
  integration : Option Round
  deriving DecidableEq, Repr

/-- The record of one peer (R62). -/
structure PeerRecord where
  present : Bool
  silence : Nat
  lastRound : Option Round
  lastView : Option StationSet
  departed : Bool
  deriving DecidableEq, Repr

/-- The peer table (R62, R63): `tracking` is false for IDLE. -/
structure PeerTable where
  records : Vector PeerRecord 16
  tracking : Bool
  startRound : Option Round
  deriving DecidableEq, Repr

/-! ### Rendezvous table -/

/-- The edge a TRIGGER condition names (Table 21). -/
inductive EdgeChoice where
  | rising
  | falling
  | either
  deriving DecidableEq, Repr

/-- The arrival condition of an entry (Table 21). -/
inductive ArrivalCondition where
  | none
  | immediate
  | command
  | trigger (input : InputIndex) (edge : EdgeChoice)
  | channel (channel : ChannelIndex) (count : BitVec 8)
  deriving DecidableEq, Repr

/-- What an entry does when its completion is learned too late (R118). -/
inductive LatePolicy where
  | skip
  | apply
  deriving DecidableEq, Repr

/-- The loaded record (R77, Table 21). -/
structure LoadedRecord where
  number : BitVec 6
  epoch : BitVec 8
  participants : StationSet
  condition : ArrivalCondition
  lead : BitVec 4
  deadline : BitVec 12
  late : LatePolicy
  channels : ChannelMask
  markers : MarkerMask
  chain : Option EntryIndex
  deriving DecidableEq, Repr

/-- The states of an entry (R79, Table 22). -/
inductive EntryState where
  | free
  | held
  | armed
  | complete
  | done
  deriving DecidableEq, Repr

/-- The outcomes of an entry (R80). -/
inductive EntryOutcome where
  | fired
  | firedLate
  | missed
  | expired
  | abandoned
  deriving DecidableEq, Repr

/-- The reasons of an ABANDONED entry (R80). -/
inductive Reason where
  | cancelled
  | peerLost
  | resync
  | left
  | notStaged
  deriving DecidableEq, Repr

/-- One entry of the rendezvous table: loaded record, state and runtime fields (R76, R80, R102). -/
structure Entry where
  state : EntryState
  record : LoadedRecord
  armRound : Option Round
  arrived : Bool
  ownAnnounce : Option Round
  records : Vector (Option Round) 16
  recordedLead : Option (BitVec 4)
  fireRound : Option Round
  late : Bool
  outcome : Option EntryOutcome
  reason : Option Reason
  actualFire : Option Round
  superseded : ChannelMask
  chainTaken : Bool
  channelCount : BitVec 8
  deriving DecidableEq, Repr

/-! ### Pulse channels -/

/-- The modes of a channel set (R146, R147). -/
inductive PulseMode where
  | off
  | level
  | periodic
  | burst
  deriving DecidableEq, Repr

/-- A channel set (R146, Table 31). -/
structure ChannelSet where
  mode : PulseMode
  level : Bool
  period : BitVec 24
  high : BitVec 24
  phase : BitVec 16
  count : BitVec 16
  invert : Bool
  guard : Bool
  safe : Bool
  deriving DecidableEq, Repr

/-- A pair of a staged queue: the tag and the set (R156). -/
structure StagedPair where
  tag : EntryIndex
  set : ChannelSet
  deriving DecidableEq, Repr

/-- The states of a channel (R148). -/
inductive RunState where
  | idle
  | waiting
  | running
  | finished
  deriving DecidableEq, Repr

/-- One pulse channel: active set, staged queue and runtime state (R148). `owed` is the model's own: the channel stands
one beat before a change that falls at this instant and is not taken yet, or that an alignment correction holds over
to the corrected opening (R153, log entry 16). -/
structure Channel where
  active : ChannelSet
  staged : List StagedPair
  run : RunState
  phaseRemaining : Nat
  position : Nat
  periodsRemaining : Nat
  periodEnds : Counter
  forced : Bool
  pin : Bool
  owed : Bool
  deriving DecidableEq, Repr

/-! ### Trigger inputs, markers, latches -/

/-- One trigger input (R167, R169). -/
structure Trigger where
  level : Option Bool
  lastEdge : Option Round
  deriving DecidableEq, Repr

/-- One marker output (R170). -/
structure Marker where
  high : Bool
  remaining : Nat
  deriving DecidableEq, Repr

/-- The eight events (Table 36). -/
inductive Event where
  | stateChange
  | peerJoined
  | peerLost
  | alone
  | yielded
  | epochConflict
  | leadConflict
  | portAbort
  deriving DecidableEq, Repr

/-- The reported sets and the re-raised sets of an open TAKE EVENTS (R174). -/
structure EventReport where
  events : EventSet
  joined : StationSet
  lost : StationSet
  againEvents : EventSet
  againJoined : StationSet
  againLost : StationSet
  deriving DecidableEq, Repr

/-- The event latches (R172, R174). -/
structure Latches where
  latched : EventSet
  joined : StationSet
  lost : StationSet
  report : Option EventReport
  deriving DecidableEq, Repr

/-! ### Local port -/

/-- The states of the local port (Table 39). -/
inductive PortState where
  | idle
  | deselectWait
  | command
  | arguments
  | turnaround
  | response
  | trailing
  deriving DecidableEq, Repr

/-- The commands of the local port (Table 42). -/
inductive PortCommand where
  | configure
  | reset
  | readStatus
  | readCounters
  | join
  | leave
  | load
  | arm
  | arrive
  | cancel
  | pop
  | readEntry
  | stage
  | unstage
  | readChannel
  | takeEvents
  deriving DecidableEq, Repr

/-- The result codes (Table 41). -/
inductive ResultCode where
  | ok
  | badCommand
  | badArg
  | badConfig
  | wrongState
  | notSynced
  | full
  | empty
  | locked
  | notStaged
  | duplicate
  | committed
  deriving DecidableEq, Repr

/-- The commands that remove what they report (R177). -/
inductive Commit where
  | pop
  | takeEvents
  | readCounters
  deriving DecidableEq, Repr

/-- The local port's transaction state (R177). `shift` holds the bits of the byte being received. `closedNow` is the
model's own: the entries that the latest round boundary or start of a transmission has closed, as long as no port event
and no other event past that instant has been taken since, so that a command event may still fall at the instant (R89,
R183, log entry 33). -/
structure Port where
  state : PortState
  bits : Nat
  shift : Byte
  command : Option Byte
  args : List Byte
  needed : Nat
  snapshot : Option (List Byte)
  shifted : Nat
  commit : Option Commit
  closedNow : List EntryIndex := []
  deriving DecidableEq, Repr

end Sys2Proof.Machine

namespace Sys2Proof.Machine

/-- The whole station, and the queue of the commands that wait for it. -/
structure State where
  resetHeld : Bool
  timer : RoundTimer
  settings : Settings
  locked : Bool
  frames : FrameLayer
  counters : Counters
  line : LineController
  peers : PeerTable
  entries : Vector Entry 16
  completions : List EntryIndex
  channels : Vector Channel 8
  triggers : Vector Trigger 4
  markers : Vector Marker 2
  latches : Latches
  port : Port
  choices : Nat
  pending : List Instr
  deriving DecidableEq, Repr

/-! ### Reset values -/

/-- The configuration record after a hardware reset (R185, Table 40). -/
def Settings.default : Settings :=
  { size := Config.defaultSize, rate := Config.defaultRate, lossLimit := Config.defaultLossLimit
    defaultLead := Config.defaultLead, mask := Config.defaultMask }

/-- An empty frame layer (R36). -/
def FrameLayer.empty : FrameLayer :=
  { announce := { uncarried := [], carried := [] }, assembled := none, transmitting := none
    good := 0#16, foreign := 0#16, mark := false, view := 0#16 }

/-- The six counters at 0 (R35, R102). -/
def Counters.zero : Counters :=
  { good := 0#16, bad := 0#16, foreign := 0#16, sent := 0#16, readBack := 0#16, conflicts := 0#16 }

/-- The line controller after either reset (R37). -/
def LineController.offline : LineController :=
  { state := .offline, leavePending := false, listen := none, coldSent := 0, excluded := 0, hold := 0, alone := false
    integration := none }

/-- A cleared peer record (R72). -/
def PeerRecord.cleared : PeerRecord :=
  { present := false, silence := 0, lastRound := none, lastView := none, departed := false }

/-- The cleared peer table (R72, R73). -/
def PeerTable.cleared : PeerTable :=
  { records := Vector.replicate 16 PeerRecord.cleared, tracking := false, startRound := none }

/-- The loaded record of an entry that holds none (R91). -/
def LoadedRecord.blank : LoadedRecord :=
  { number := 0#6, epoch := 0#8, participants := 0#16, condition := .none, lead := 0#4, deadline := 0#12, late := .skip
    channels := 0#8, markers := 0#2, chain := none }

/-- A FREE entry: every field absent, none or empty (R80, R91). -/
def Entry.blank : Entry :=
  { state := .free, record := LoadedRecord.blank, armRound := none, arrived := false, ownAnnounce := none
    records := Vector.replicate 16 none, recordedLead := none, fireRound := none, late := false, outcome := none
    reason := none, actualFire := none, superseded := 0#8, chainTaken := false, channelCount := 0#8 }

/-- The OFF set of a reset channel (R166). -/
def ChannelSet.off : ChannelSet :=
  { mode := .off, level := false, period := 0#24, high := 0#24, phase := 0#16, count := 0#16, invert := false
    guard := false, safe := false }

/-- A channel after either reset (R166). -/
def Channel.afterReset : Channel :=
  { active := ChannelSet.off, staged := [], run := .idle, phaseRemaining := 0, position := 0, periodsRemaining := 0
    periodEnds := 0#16, forced := false, pin := false, owed := false }

/-- A marker after either reset (R171). -/
def Marker.low : Marker :=
  { high := false, remaining := 0 }

/-- A trigger input after a hardware reset (R169). -/
def Trigger.unsampled : Trigger :=
  { level := none, lastEdge := none }

/-- Empty event latches (R176). -/
def Latches.empty : Latches :=
  { latched := 0#8, joined := 0#16, lost := 0#16, report := none }

/-- The port with empty transaction state (R177). -/
def Port.idle : Port :=
  { state := .idle, bits := 0, shift := 0#8, command := none, args := [], needed := 0, snapshot := none, shifted := 0
    commit := none }

/-- The round timer of a hardware reset: default rate and round size, line time 0, 0, 0 (R14, Table 9). The station
number is sampled at the release; 0 stands in its place before (log entry 10). -/
def RoundTimer.start : RoundTimer :=
  { round := 0#16, slot := 0, beat := 0, correction := none, rate := Config.defaultRate, size := Config.defaultSize
    station := 0, boundary := none, opening := false, ownOpening := false }

/-- The station while RESETN is low: every block at its reset value (R14, R36, R60, R73, R101, R166, R169, R171, R176,
R177, R185). -/
def State.held : State :=
  { resetHeld := true, timer := RoundTimer.start, settings := Settings.default, locked := false
    frames := FrameLayer.empty, counters := Counters.zero, line := LineController.offline, peers := PeerTable.cleared
    entries := Vector.replicate 16 Entry.blank, completions := [], channels := Vector.replicate 8 Channel.afterReset
    triggers := Vector.replicate 4 Trigger.unsampled, markers := Vector.replicate 2 Marker.low
    latches := Latches.empty, port := Port.idle, choices := 0, pending := [] }

/-- The machine right after reset: RESETN has been released with every strap low and PCS high, so that the station
number is 0 and the port is IDLE (R14, R177; DESIGN CHOICE of the pins' levels, log entry 8). -/
def State.reset : State :=
  { State.held with resetHeld := false }

/-! ### Reasons to stop -/

/-- No command makes the station stop with a fault: the manual gives every event an effect, or says that it has none. -/
inductive Fault where
  deriving DecidableEq, Repr

/-- Why a step has no meaning. -/
inductive Refusal where
  /-- Raised by `exec` alone, in the arm of a command without a meaning: safe, since the step stops. No arm does so. -/
  | notModelled (mnemonic : String)
  deriving DecidableEq, Repr

/-- What a command answers. -/
abbrev Answer := Host.Outcome State Fault Refusal

end Sys2Proof.Machine
end

