-- ==== Sys2Proof/Machine/Operands.lean ====
section
/-!
DEFINITION. The forms in which operands arrive: sets and index bytes, the bytes of CONFIGURE, loaded records and
channel sets (Tables 49 to 51), the line code, the start mark, the CRC and the layout of a frame (R20, R193, Tables 44
to 46).
-/

namespace Sys2Proof.Machine

/-! ### Sets and indices -/

/-- All sixteen station numbers or entry indices, ascending. -/
def allSixteen : List (Fin 16) := [0, 1, 2, 3, 4, 5, 6, 7, 8, 9, 10, 11, 12, 13, 14, 15]

/-- All eight channels, ascending. -/
def allChannels : List ChannelIndex := [0, 1, 2, 3, 4, 5, 6, 7]

/-- The station is a member of the set: bit n stands for station n (R193). -/
def hasStation (set : StationSet) (k : Station) : Bool := set.getLsbD k.val

/-- The set that holds one station. -/
def stationBit (k : Station) : StationSet := 1#16 <<< k.val

/-- The members of a station set, ascending. -/
def members (set : StationSet) : List Station := allSixteen.filter (hasStation set)

/-- Every member of the set is below n (R77). -/
def allBelow (n : Nat) (set : StationSet) : Bool := (members set).all fun k => decide (k.val < n)

/-- The channel is a member of the mask. -/
def hasChannel (mask : ChannelMask) (c : ChannelIndex) : Bool := mask.getLsbD c.val

/-- The mask that holds one channel. -/
def channelBit (c : ChannelIndex) : ChannelMask := 1#8 <<< c.val

/-- An index byte: none when it is 16 or above (R76, R194). -/
def indexOf (b : Byte) : Option EntryIndex :=
  if h : b.toNat < 16 then some ⟨b.toNat, h⟩ else none

/-- A channel byte: none when it is 8 or above (R157, R165, R194). -/
def channelOf (b : Byte) : Option ChannelIndex :=
  if h : b.toNat < 8 then some ⟨b.toNat, h⟩ else none

/-- The first occurrences in a list, in their order. -/
def distinctOf {α : Type} [DecidableEq α] : List α → List α
  | [] => []
  | a :: l => a :: (distinctOf l).filter (fun b => decide (b ≠ a))

/-- An order made whole: its first occurrences, and behind them the required members it leaves out. An order that is
well formed is taken as it stands (log entry 5). -/
def completeOrder {α : Type} [DecidableEq α] (required order : List α) : List α :=
  distinctOf order ++ required.filter (fun a => !order.contains a)

/-- The order in which the channels are treated, all eight of them (log entry 5). -/
def channelOrder (order : List ChannelIndex) : List ChannelIndex := completeOrder allChannels order

/-! ### Multi-byte fields, most significant byte first (R194, R195) -/

/-- The two bytes of a 16-bit field. -/
def bytes16 (w : BitVec 16) : List Byte := [w.extractLsb' 8 8, w.extractLsb' 0 8]

/-- The three bytes of a 24-bit field. -/
def bytes24 (w : BitVec 24) : List Byte := [w.extractLsb' 16 8, w.extractLsb' 8 8, w.extractLsb' 0 8]

/-- One bit of a byte. -/
def bit (b : Byte) (n : Nat) : Bool := b.getLsbD n

/-- A bit as a one-bit word. -/
def bitOf (b : Bool) : BitVec 1 := BitVec.ofBool b

/-! ### The configuration record (Table 49) -/

/-- The rate a code names: none for the codes 4 to 7 (Table 49). -/
def rateOfCode (code : BitVec 3) : Option LineRate :=
  if code = 0#3 then some .mbit1
  else if code = 1#3 then some .mbit2p5
  else if code = 2#3 then some .mbit5
  else if code = 3#3 then some .mbit10
  else none

/-- The code of a rate (Table 49). -/
def codeOfRate : LineRate → BitVec 3
  | .mbit1 => 0#3
  | .mbit2p5 => 1#3
  | .mbit5 => 2#3
  | .mbit10 => 3#3

/-- The values that the four bytes of CONFIGURE give, where every one is in its range and every spare bit is 0 (R186,
R194, Table 49). -/
def decodeSettings : List Byte → Option Settings
  | [b0, b1, b2, b3] =>
    let size := (b0.extractLsb' 0 5).toNat
    let lossLimit := (b2.extractLsb' 4 4).toNat
    let lead := b2.extractLsb' 0 4
    match rateOfCode (b1.extractLsb' 0 3) with
    | none => none
    | some rate =>
      if b0.extractLsb' 5 3 = 0#3 ∧ b1.extractLsb' 3 5 = 0#5 ∧ 2 ≤ size ∧ size ≤ 16 ∧ 2 ≤ lossLimit ∧ lossLimit ≤ 7 ∧
          lead ≠ 0#4 then
        some { size := size, rate := rate, lossLimit := lossLimit, defaultLead := lead, mask := b3 }
      else none
  | _ => none

/-- The configuration record as the four bytes of CONFIGURE (Tables 49 and 52). -/
def encodeSettings (c : Settings) : List Byte :=
  [0#3 ++ BitVec.ofNat 5 c.size, 0#5 ++ codeOfRate c.rate, BitVec.ofNat 4 c.lossLimit ++ c.defaultLead, c.mask]

/-! ### The loaded record (Table 50) -/

/-- The arrival condition that byte 4 and byte 5 of a loaded record code: none where the coding names no value, a
spare bit is not 0, or the count is out of its range (R194, Table 50). -/
def decodeCondition (b4 b5 : Byte) : Option ArrivalCondition :=
  let code := b4.extractLsb' 5 3
  let low := b4.extractLsb' 0 5
  if code = 0#3 then
    if low = 0#5 ∧ b5 = 0#8 then some .none else none
  else if code = 1#3 then
    if low = 0#5 ∧ b5 = 0#8 then some .immediate else none
  else if code = 2#3 then
    if low = 0#5 ∧ b5 = 0#8 then some .command else none
  else if code = 3#3 then
    if bit b4 2 = false ∧ b5 = 0#8 then
      let input : InputIndex := (b4.extractLsb' 0 2).toFin
      let edge := b4.extractLsb' 3 2
      if edge = 0#2 then some (.trigger input .rising)
      else if edge = 1#2 then some (.trigger input .falling)
      else if edge = 2#2 then some (.trigger input .either)
      else none
    else none
  else if code = 4#3 then
    if b4.extractLsb' 3 2 = 0#2 ∧ b5 ≠ 0#8 then some (.channel (b4.extractLsb' 0 3).toFin b5) else none
  else none

/-- Bytes 4 and 5 of the loaded record (Table 50). -/
def encodeCondition : ArrivalCondition → List Byte
  | .none => [0x00#8, 0#8]
  | .immediate => [0x20#8, 0#8]
  | .command => [0x40#8, 0#8]
  | .trigger input edge =>
    let code : BitVec 2 := match edge with
      | .rising => 0#2
      | .falling => 1#2
      | .either => 2#2
    [3#3 ++ code ++ 0#1 ++ (BitVec.ofFin input : BitVec 2), 0#8]
  | .channel c count => [4#3 ++ 0#2 ++ (BitVec.ofFin c : BitVec 3), count]

/-- The chain that byte 11 codes: the outer none where a spare bit is not 0 or the index of an absent chain is not 0
(R194, Table 50). -/
def decodeChain (b : Byte) : Option (Option EntryIndex) :=
  if b.extractLsb' 4 3 ≠ 0#3 then none
  else if bit b 7 then some (some (b.extractLsb' 0 4).toFin)
  else if b.extractLsb' 0 4 = 0#4 then some none
  else none

/-- Byte 11 of the loaded record (Table 50). -/
def encodeChain : Option EntryIndex → Byte
  | none => 0#8
  | some i => 1#1 ++ 0#3 ++ (BitVec.ofFin i : BitVec 4)

/-- The record that twelve bytes code, where every field's coding names a value and every spare bit is 0 (R194,
Table 50). Whether the record is legal is R77's further matter. -/
def decodeRecord : List Byte → Option LoadedRecord
  | [b0, b1, b2, b3, b4, b5, b6, b7, b8, b9, b10, b11] =>
    match decodeCondition b4 b5, decodeChain b11 with
    | some condition, some chain =>
      if b0.extractLsb' 6 2 = 0#2 ∧ b6.extractLsb' 5 3 = 0#3 ∧ b7.extractLsb' 4 4 = 0#4 ∧ b10.extractLsb' 2 6 = 0#6 then
        some
          { number := b0.extractLsb' 0 6, epoch := b1, participants := b2 ++ b3, condition := condition
            lead := b6.extractLsb' 0 4, deadline := b7.extractLsb' 0 4 ++ b8
            late := if bit b6 4 then .apply else .skip
            channels := b9, markers := b10.extractLsb' 0 2, chain := chain }
      else none
    | _, _ => none
  | _ => none

/-- The loaded record as twelve bytes (Tables 50 and 54). -/
def encodeRecord (r : LoadedRecord) : List Byte :=
  [0#2 ++ r.number, r.epoch] ++ bytes16 r.participants ++ encodeCondition r.condition ++
    [0#3 ++ bitOf (decide (r.late = .apply)) ++ r.lead, 0#4 ++ r.deadline.extractLsb' 8 4, r.deadline.extractLsb' 0 8,
     r.channels, 0#6 ++ r.markers, encodeChain r.chain]

/-- The record is legal for the entry with this index, under this round size and station number (R77). -/
def legalRecord (n : Nat) (station : Station) (i : EntryIndex) (r : LoadedRecord) : Bool :=
  decide (r.participants ≠ 0#16) && allBelow n r.participants &&
    (decide (r.condition = .none) == !hasStation r.participants station) &&
    (decide (r.condition ≠ .none) || decide (r.lead = 0#4)) &&
    decide (r.chain ≠ some i)

/-! ### The channel set (Table 51) -/

/-- The mode that two bits code (Table 51). -/
def modeOfCode (code : BitVec 2) : PulseMode :=
  if code = 0#2 then .off else if code = 1#2 then .level else if code = 2#2 then .periodic else .burst

/-- The code of a mode (Table 51). -/
def codeOfMode : PulseMode → BitVec 2
  | .off => 0#2
  | .level => 1#2
  | .periodic => 2#2
  | .burst => 3#2

/-- The set is legal: every field lies in the range of its mode, and every field that the mode does not use is 0
(R146, Table 31). -/
def legalSet (c : ChannelSet) : Bool :=
  match c.mode with
  | .off => !c.level && decide (c.period = 0#24 ∧ c.high = 0#24 ∧ c.phase = 0#16 ∧ c.count = 0#16)
  | .level => decide (c.period = 0#24 ∧ c.high = 0#24 ∧ c.phase = 0#16 ∧ c.count = 0#16)
  | .periodic => !c.level && decide (2 ≤ c.period.toNat ∧ c.high.toNat ≤ c.period.toNat ∧ c.count = 0#16)
  | .burst => !c.level && decide (2 ≤ c.period.toNat ∧ c.high.toNat ≤ c.period.toNat ∧ 1 ≤ c.count.toNat)

/-- The legal channel set that eleven bytes code (R146, R194, Table 51). -/
def decodeSet : List Byte → Option ChannelSet
  | [b0, b1, b2, b3, b4, b5, b6, b7, b8, b9, b10] =>
    let c : ChannelSet :=
      { mode := modeOfCode (b0.extractLsb' 6 2), level := bit b0 5, period := b1 ++ b2 ++ b3, high := b4 ++ b5 ++ b6
        phase := b7 ++ b8, count := b9 ++ b10, invert := bit b0 4, guard := bit b0 3, safe := bit b0 2 }
    if b0.extractLsb' 0 2 = 0#2 ∧ legalSet c = true then some c else none
  | _ => none

/-- The channel set as eleven bytes (Tables 51 and 55). -/
def encodeSet (c : ChannelSet) : List Byte :=
  [codeOfMode c.mode ++ bitOf c.level ++ bitOf c.invert ++ bitOf c.guard ++ bitOf c.safe ++ 0#2] ++
    bytes24 c.period ++ bytes24 c.high ++ bytes16 c.phase ++ bytes16 c.count

/-! ### The line code (R20, R193) -/

/-- The bit that a beat codes: 1 is high then low, 0 is low then high; none for a silent beat (R20, R193). -/
def beatBit (b : LineBeat) : Option Bool :=
  if b.first = b.second then none else some b.first

/-- The beat that codes a bit (R193). -/
def codeBit (v : Bool) : LineBeat := { first := v, second := !v }

/-- The bits of a byte, most significant first (R193). -/
def byteBits (b : Byte) : List Bool := [bit b 7, bit b 6, bit b 5, bit b 4, bit b 3, bit b 2, bit b 1, bit b 0]

/-- The byte that eight bits make, the most significant first (R193). -/
def byteOfBits (v7 v6 v5 v4 v3 v2 v1 v0 : Bool) : Byte :=
  bitOf v7 ++ bitOf v6 ++ bitOf v5 ++ bitOf v4 ++ bitOf v3 ++ bitOf v2 ++ bitOf v1 ++ bitOf v0

/-- The start mark: the 16-bit word AAABh (R193). -/
def startMark : List Bool :=
  [true, false, true, false, true, false, true, false, true, false, true, false, true, false, true, true]

/-- The beats of a frame on the line: the start mark and the coded bytes (R7, R193). -/
def lineBeats (bytes : List Byte) : List LineBeat :=
  (startMark ++ bytes.flatMap byteBits).map codeBit

/-- The whole bytes that stand before the first silent beat (R20). -/
def readBytes : List LineBeat → List Byte
  | b7 :: b6 :: b5 :: b4 :: b3 :: b2 :: b1 :: b0 :: rest =>
    match beatBit b7, beatBit b6, beatBit b5, beatBit b4, beatBit b3, beatBit b2, beatBit b1, beatBit b0 with
    | some v7, some v6, some v5, some v4, some v3, some v2, some v1, some v0 =>
      byteOfBits v7 v6 v5 v4 v3 v2 v1 v0 :: readBytes rest
    | _, _, _, _, _, _, _, _ => []
  | _ => []

/-- A start mark is recognised at the head of the activity: it was sent at the receiver's rate, at least 8 silent
beats stand before it, and its 16 beats carry the start pattern (R1, R20, R193). -/
def startRecognised (rate : LineRate) (rx : Reception) : Bool :=
  decide (rx.rate = rate) && decide (Config.quietBeats ≤ rx.quietBefore) &&
    decide ((rx.beats.take 16).map beatBit = startMark.map some)

/-! ### The CRC (R20) -/

/-- One bit of the remainder under x^16 + x^12 + x^5 + 1 (R20). -/
def crcShift (c : BitVec 16) : BitVec 16 :=
  if c.msb then (c <<< 1) ^^^ 0x1021#16 else c <<< 1

/-- One byte taken into the remainder, most significant bit first (R20). -/
def crcByte (c : BitVec 16) (b : Byte) : BitVec 16 :=
  crcShift (crcShift (crcShift (crcShift (crcShift (crcShift (crcShift (crcShift (c ^^^ (b ++ 0#8)))))))))

/-- The CRC of some bytes: the register starts at all ones, and there is no final inversion (R20). -/
def crc (bytes : List Byte) : BitVec 16 := bytes.foldl crcByte 0xFFFF#16

/-! ### The frame (Tables 44 to 46) -/

/-- The kind that a code names: none for 00 (R17, Table 45). -/
def kindOfCode (code : BitVec 2) : Option FrameKind :=
  if code = 1#2 then some .sync else if code = 2#2 then some .cold else if code = 3#2 then some .leave else none

/-- The code of a kind (Table 45). -/
def codeOfKind : FrameKind → BitVec 2
  | .sync => 1#2
  | .cold => 2#2
  | .leave => 3#2

/-- An arrival entry as a 40-bit word (Table 46). -/
def arrivalWord (a : ArrivalEntry) : BitVec 40 := a.number ++ a.epoch ++ a.lead ++ a.announce ++ 0#6

/-- An arrival entry as five bytes (Table 46). -/
def encodeArrival (a : ArrivalEntry) : List Byte :=
  let w := arrivalWord a
  [w.extractLsb' 32 8, w.extractLsb' 24 8, w.extractLsb' 16 8, w.extractLsb' 8 8, w.extractLsb' 0 8]

/-- The header as a 48-bit word (Table 44). -/
def headerWord (f : Frame) : BitVec 48 :=
  codeOfKind f.kind ++ (BitVec.ofFin f.sender : BitVec 4) ++ BitVec.ofNat 4 f.arrivals.length ++ 0#6 ++ f.round ++ f.view

/-- The header as six bytes (Table 44). -/
def encodeHeader (f : Frame) : List Byte :=
  let w := headerWord f
  [w.extractLsb' 40 8, w.extractLsb' 32 8, w.extractLsb' 24 8, w.extractLsb' 16 8, w.extractLsb' 8 8, w.extractLsb' 0 8]

/-- The bytes of a frame before its CRC. -/
def frameBody (f : Frame) : List Byte := encodeHeader f ++ f.arrivals.flatMap encodeArrival

/-- The bytes of a frame after its start mark: header, arrival entries, CRC (R193). -/
def encodeFrame (f : Frame) : List Byte := frameBody f ++ bytes16 (crc (frameBody f))

/-- The arrival entries that whole groups of five bytes code: none where a lead is 0 or a spare is not 0 (R19, R21). -/
def decodeArrivals : List Byte → Option (List ArrivalEntry)
  | [] => some []
  | b0 :: b1 :: b2 :: b3 :: b4 :: rest =>
    let w : BitVec 40 := b0 ++ b1 ++ b2 ++ b3 ++ b4
    let a : ArrivalEntry :=
      { number := w.extractLsb' 34 6, epoch := w.extractLsb' 26 8, lead := w.extractLsb' 22 4, announce := w.extractLsb' 6 16 }
    if a.lead = 0#4 ∨ w.extractLsb' 0 6 ≠ 0#6 then none
    else
      match decodeArrivals rest with
      | some l => some (a :: l)
      | none => none
  | _ => none

/-- The arrival count that the first two bytes of a frame code (Table 44). -/
def arrivalCount (b0 b1 : Byte) : Nat := (b0.extractLsb' 0 2 ++ b1.extractLsb' 6 2 : BitVec 4).toNat

/-- The contents of a frame that ended with these bytes after its start mark: none where R21 classes it bad, which is
when it is cut off, not intact, of no kind, of an arrival count of 9 to 15, or holds a nonzero spare or a lead of 0.
Bytes behind the last CRC byte do not belong to the frame (R20). -/
def decodeFrame : List Byte → Option Frame
  | b0 :: b1 :: b2 :: b3 :: b4 :: b5 :: rest =>
    let k := arrivalCount b0 b1
    if Config.maxArrivals < k ∨ rest.length < 5 * k + 2 then none
    else
      let entries := rest.take (5 * k)
      let body := b0 :: b1 :: b2 :: b3 :: b4 :: b5 :: entries
      if (rest.drop (5 * k)).take 2 ≠ bytes16 (crc body) then none
      else
        match kindOfCode (b0.extractLsb' 6 2), decodeArrivals entries with
        | some kind, some arrivals =>
          if b1.extractLsb' 0 6 ≠ 0#6 then none
          else
            some { kind := kind, sender := (b0.extractLsb' 2 4).toFin, round := b2 ++ b3, view := b4 ++ b5, arrivals := arrivals }
        | _, _ => none
  | _ => none

/-- What a stretch of activity on LRX was (R20, R21, R27). -/
inductive Heard where
  /-- Activity that is not a frame. -/
  | activity
  /-- A bad frame. -/
  | bad
  /-- A frame that is not bad. -/
  | frame (f : Frame)
  deriving DecidableEq, Repr

/-- What a receiver of this rate makes of an ended stretch of activity (R20, R21). A frame in progress at a jump or
restart is discarded, and what is left of it is activity that is not a frame (R27). Activity of which any part fell into
an own transmission belongs to the read-back as far as that reaches and becomes no received frame; what goes on behind
the own frame's end is activity that is not a frame (R20, R33, log entry 13). -/
def hear (rate : LineRate) (rx : Reception) : Heard :=
  if rx.beforeJump = true ∨ rx.meetsOwn = true ∨ startRecognised rate rx = false then .activity
  else
    match decodeFrame (readBytes (rx.beats.drop 16)) with
    | none => .bad
    | some f => .frame f

/-- The beats of a frame with k arrival entries, its start mark included (R7): 80 + 40k. -/
def frameBeats (k : Nat) : Nat := 80 + 40 * k

end Sys2Proof.Machine
end

