-- ==== Sys2Proof/Machine/Flags.lean ====
section
/-!
DEFINITION. The flags by which the station reports: saturating counters (R35), the event latches (R172, R174, R175)
and ATTN (R173), with the setters of the state's blocks.
-/

namespace Sys2Proof.Machine

/-! ### One setter for each block of the state -/

def State.setTimer (s : State) (t : RoundTimer) : State := { s with timer := t }
def State.setSettings (s : State) (c : Settings) : State := { s with settings := c }
def State.setLocked (s : State) (b : Bool) : State := { s with locked := b }
def State.setFrames (s : State) (f : FrameLayer) : State := { s with frames := f }
def State.setCounters (s : State) (c : Counters) : State := { s with counters := c }
def State.setLine (s : State) (l : LineController) : State := { s with line := l }
def State.setPeers (s : State) (p : PeerTable) : State := { s with peers := p }
def State.setEntries (s : State) (e : Vector Entry 16) : State := { s with entries := e }
def State.setCompletions (s : State) (l : List EntryIndex) : State := { s with completions := l }
def State.setChannels (s : State) (c : Vector Channel 8) : State := { s with channels := c }
def State.setTriggers (s : State) (t : Vector Trigger 4) : State := { s with triggers := t }
def State.setMarkers (s : State) (m : Vector Marker 2) : State := { s with markers := m }
def State.setLatches (s : State) (l : Latches) : State := { s with latches := l }
def State.setPort (s : State) (p : Port) : State := { s with port := p }

/-! ### Counters -/

/-- A 16-bit counter counts up by one and saturates at 65535 (R35). -/
def bump (c : Counter) : Counter := if c = 0xFFFF#16 then c else c + 1#16

/-! ### Event latches -/

/-- The bit of an event in the event byte (Table 49). -/
def Event.bit : Event → EventSet
  | .portAbort => 0x01#8
  | .leadConflict => 0x02#8
  | .epochConflict => 0x04#8
  | .yielded => 0x08#8
  | .alone => 0x10#8
  | .peerLost => 0x20#8
  | .peerJoined => 0x40#8
  | .stateChange => 0x80#8

/-- A raise adds the events to the latched set and the stations to their sets; while a TAKE EVENTS is open it is
recorded in the re-raised sets as well (R172, R174). -/
def Latches.add (l : Latches) (events : EventSet) (joined lost : StationSet) : Latches :=
  { l with
    latched := l.latched ||| events, joined := l.joined ||| joined, lost := l.lost ||| lost
    report := l.report.map fun r =>
      { r with againEvents := r.againEvents ||| events, againJoined := r.againJoined ||| joined, againLost := r.againLost ||| lost } }

/-- TAKE EVENTS opens its report: the three sets as they stand, and three empty re-raised sets (R174). -/
def Latches.openReport (l : Latches) : Latches :=
  { l with
    report := some
      { events := l.latched, joined := l.joined, lost := l.lost, againEvents := 0#8, againJoined := 0#16, againLost := 0#16 } }

/-- The reported and re-raised sets are discarded (R175). -/
def Latches.discard (l : Latches) : Latches := { l with report := none }

/-- The commit of TAKE EVENTS removes every reported member that was not raised again (R175). -/
def Latches.commit (l : Latches) : Latches :=
  match l.report with
  | none => l
  | some r =>
    { latched := l.latched &&& ~~~(r.events &&& ~~~r.againEvents)
      joined := l.joined &&& ~~~(r.joined &&& ~~~r.againJoined)
      lost := l.lost &&& ~~~(r.lost &&& ~~~r.againLost)
      report := none }

/-- An event is raised (R172). -/
def State.raise (s : State) (e : Event) : State := s.setLatches (s.latches.add e.bit 0#16 0#16)

/-- Peers have joined and peers are lost: each event is raised once if its set is not empty, and names its stations
(R70, R172). -/
def State.raisePeers (s : State) (joined lost : StationSet) : State :=
  s.setLatches
    (s.latches.add
      ((if joined = 0#16 then 0#8 else Event.peerJoined.bit) ||| (if lost = 0#16 then 0#8 else Event.peerLost.bit))
      joined lost)

/-! ### Attention -/

/-- ATTN: the completion queue is not empty, or a latched event stands in the attention mask; low while RESETN is low
(R94, R173). -/
def State.attn (s : State) : Bool :=
  !s.resetHeld && (!s.completions.isEmpty || decide (s.latches.latched &&& s.settings.mask ≠ 0#8))

end Sys2Proof.Machine
end

