-- ==== Sys2Proof/Machine/Ops.lean ====
section
/-!
DEFINITION. The named operations that the commands share: round arithmetic (R3), the round timer, the pulse channels,
the announce queue, closing and freeing entries, local arrival, agreement, the peer table and the line controller's
changes of state.
-/

namespace Sys2Proof.Machine

/-! ### Round arithmetic -/

/-- Round `a` precedes round `b` (R3). -/
def precedes (a b : Round) : Bool := decide (1 ≤ (b - a).toNat ∧ (b - a).toNat ≤ 32767)

/-- The number of rounds by which `a` lies before `r` (R116). -/
def age (r a : Round) : Nat := (r - a).toNat

/-- The latest of some known announce rounds: the one of least age (R116). -/
def latestOf (r : Round) : List Round → Option Round
  | [] => none
  | a :: l => some (l.foldl (fun b c => if age r c < age r b then c else b) a)

/-! ### Access to the tables -/

def State.entry (s : State) (i : EntryIndex) : Entry := s.entries[i]
def State.channel (s : State) (c : ChannelIndex) : Channel := s.channels[c]
def State.trigger (s : State) (k : InputIndex) : Trigger := s.triggers[k]
def State.marker (s : State) (k : MarkerIndex) : Marker := s.markers[k]
def State.peer (s : State) (k : Station) : PeerRecord := s.peers.records[k]

/-- One entry is replaced. -/
def State.setEntry (s : State) (i : EntryIndex) (e : Entry) : State := s.setEntries (s.entries.set i e)

/-- One trigger input is replaced. -/
def State.setTrigger (s : State) (k : InputIndex) (t : Trigger) : State := s.setTriggers (s.triggers.set k t)

/-- One marker is replaced. -/
def State.setMarker (s : State) (k : MarkerIndex) (m : Marker) : State := s.setMarkers (s.markers.set k m)

/-- The line controller is ACTIVE. -/
def State.isActive (s : State) : Bool := decide (s.line.state = .active)

/-- The line controller is in one of the states in which entries may be pending (Table 14). -/
def LineState.synced : LineState → Bool
  | .integrating => true
  | .active => true
  | .passive => true
  | _ => false

/-! ### Pulse channels -/

/-- The generated level of a channel (R147, R149 to R151). -/
def Channel.generated (c : Channel) : Bool :=
  match c.run with
  | .idle => decide (c.active.mode = .level) && c.active.level
  | .running => decide (c.position < c.active.high.toNat)
  | .waiting => false
  | .finished => false

/-- The level that the pin drives (R147, R163, Table 32). -/
def Channel.pinLevel (c : Channel) : Bool :=
  if c.forced = true ∨ c.active.mode = .off then c.active.safe else c.generated != c.active.invert

/-- The forced state and the pin follow the active set, the runtime state and the line controller (R163, R164). -/
def Channel.settle (c : Channel) (active : Bool) : Channel :=
  let d := { c with forced := c.active.guard && !active }
  { d with pin := d.pinLevel }

/-- One channel is replaced, its forced state and pin following (R163). -/
def State.setChannel (s : State) (k : ChannelIndex) (c : Channel) : State :=
  s.setChannels (s.channels.set k (c.settle s.isActive))

/-- Every channel's forced state and pin follow a change of the line controller (R58, R164). -/
def State.settleChannels (s : State) : State :=
  allChannels.foldl (fun s k => s.setChannel k (s.channel k)) s

/-- The change that a channel's next beat makes, if it makes one. -/
inductive ChannelChange where
  | phaseWaitEnd
  | highToLow
  | periodEnd
  deriving DecidableEq, Repr

/-- The change that the next beat of a channel makes (R149, R150). -/
def Channel.nextChange (c : Channel) : Option ChannelChange :=
  match c.run with
  | .waiting => if c.phaseRemaining ≤ 1 then some .phaseWaitEnd else none
  | .running =>
    if c.active.period.toNat ≤ c.position + 1 then some .periodEnd
    else if c.position + 1 = c.active.high.toNat then some .highToLow
    else none
  | .idle => none
  | .finished => none

/-- One beat that makes no change (R149, R150). -/
def Channel.advance (c : Channel) : Channel :=
  match c.run with
  | .waiting => { c with phaseRemaining := c.phaseRemaining - 1 }
  | .running => { c with position := c.position + 1 }
  | .idle => c
  | .finished => c

/-- The end of the phase wait: the channel enters RUNNING at position 0 (R149). -/
def Channel.phaseEnded (c : Channel) : Channel :=
  { c with run := .running, phaseRemaining := 0, position := 0, owed := false }

/-- The position reaches the high time (R150). -/
def Channel.fallen (c : Channel) : Channel :=
  { c with position := c.active.high.toNat, owed := false }

/-- The period ends: it is counted, and the next period begins, unless it was the last of a burst (R150, R151). -/
def Channel.periodEnded (c : Channel) : Channel :=
  let d := { c with periodEnds := bump c.periodEnds, position := 0, owed := false }
  if c.active.mode = .burst then
    if c.periodsRemaining ≤ 1 then { d with run := .finished, periodsRemaining := 0 }
    else { d with periodsRemaining := c.periodsRemaining - 1 }
  else d

/-- The runtime state of a set that has just become active (R149, R160). -/
def Channel.start (set : ChannelSet) (staged : List StagedPair) : Channel :=
  let c : Channel :=
    { active := set, staged := staged, run := .idle, phaseRemaining := 0, position := 0, periodsRemaining := 0
      periodEnds := 0#16, forced := false, pin := false, owed := false }
  match set.mode with
  | .off => c
  | .level => c
  | .periodic => if set.phase = 0#16 then { c with run := .running } else { c with run := .waiting, phaseRemaining := set.phase.toNat }
  | .burst =>
    let d := { c with periodsRemaining := set.count.toNat }
    if set.phase = 0#16 then { d with run := .running } else { d with run := .waiting, phaseRemaining := set.phase.toNat }

/-! ### Entries -/

/-- The entry is ARMED or COMPLETE (R79). -/
def Entry.pending (e : Entry) : Bool := decide (e.state = .armed) || decide (e.state = .complete)

/-- The station is a participant of the entry (R78). -/
def State.participates (s : State) (e : Entry) : Bool := hasStation e.record.participants s.timer.station

/-- The entry waits for its local arrival (R103). -/
def State.awaits (s : State) (e : Entry) : Bool :=
  decide (e.state = .armed) && s.participates e && !e.arrived

/-- The effective lead of a participant entry (R78). -/
def State.effectiveLead (s : State) (e : Entry) : BitVec 4 :=
  if e.record.lead = 0#4 then s.settings.defaultLead else e.record.lead

/-- The deadline round: none for a deadline of 0 (R78). -/
def Entry.deadlineRound (e : Entry) : Option Round :=
  if e.record.deadline = 0#12 then none else e.armRound.map fun r => r + e.record.deadline.setWidth 16

/-- A channel's staged queue holds a pair tagged with the entry. -/
def Channel.isStaged (c : Channel) (i : EntryIndex) : Bool := c.staged.any fun p => decide (p.tag = i)

/-- Every channel in the entry's mask holds a staged set tagged with it (R84, R136). -/
def State.fullyStaged (s : State) (i : EntryIndex) : Bool :=
  allChannels.all fun k => !hasChannel (s.entry i).record.channels k || (s.channel k).isStaged i

/-- The entry is in carriage (R29). -/
def State.inCarriage (s : State) (i : EntryIndex) : Bool :=
  match s.frames.assembled with
  | none => false
  | some f => f.carriage.contains i

/-- The announce queue, head first: the uncarried part, then the carried part (R28). -/
def AnnounceQueue.all (q : AnnounceQueue) : List EntryIndex := q.uncarried ++ q.carried

/-- The entry is committed (R87). -/
def State.committed (s : State) (i : EntryIndex) : Bool :=
  s.participates (s.entry i) && ((s.entry i).ownAnnounce.isSome || s.inCarriage i)

/-- The index leaves the announce queue, and the assembled frame no longer counts it among the members it named (R28,
R30). -/
def State.leaveAnnounce (s : State) (i : EntryIndex) : State :=
  let keep := fun (l : List EntryIndex) => l.filter fun j => decide (j ≠ i)
  s.setFrames
    { s.frames with
      announce := { uncarried := keep s.frames.announce.uncarried, carried := keep s.frames.announce.carried }
      assembled := s.frames.assembled.map fun f => { f with named := keep f.named } }

/-- The channel discards the pair tagged with the entry, and the pairs behind it close up (R159). -/
def Channel.discard (c : Channel) (i : EntryIndex) : Channel :=
  { c with staged := c.staged.filter fun p => decide (p.tag ≠ i) }

/-- Every channel discards the pair tagged with the entry, within the same reaction (R159). -/
def State.discardStaged (s : State) (i : EntryIndex) : State :=
  allChannels.foldl (fun s (k : ChannelIndex) => s.setChannels (s.channels.set k ((s.channel k).discard i))) s

/-- The entry enters DONE with an outcome: R90 without the append, which `appendClosed` makes for the whole reaction
(R93). -/
def State.closeEntry (s : State) (i : EntryIndex) (outcome : EntryOutcome) (reason : Option Reason) : State :=
  ((s.setEntry i { s.entry i with state := .done, outcome := some outcome, reason := reason }).leaveAnnounce i).discardStaged i

/-- The entries that are DONE after a reaction and were not before it, in ascending order of index. -/
def State.newlyDone (before s : State) : List EntryIndex :=
  allSixteen.filter fun i => decide ((before.entry i).state ≠ .done ∧ (s.entry i).state = .done)

/-- The entries that one reaction of the table has closed are appended to the completion queue in ascending order of
index (R93). -/
def State.appendClosed (before s : State) : State := s.setCompletions (s.completions ++ State.newlyDone before s)

/-- A reaction at this instant has closed these entries, and a command event of the same instant may find them so
(R89). -/
def State.noteClosed (before s : State) : State :=
  s.setPort { s.port with closedNow := State.newlyDone before s }

/-- The instant of the latest round boundary or start of a transmission is over for the port: an event is taken that does
not fall at it (R115, R143, R183). -/
def State.passInstant (s : State) : State := s.setPort { s.port with closedNow := [] }

/-- One reaction of the rendezvous table: its work, and then the appends (R76, R93). -/
def State.tableReaction (s : State) (work : State → State) : State := State.appendClosed s (work s)

/-- The entry returns to FREE (R91): every field becomes absent, its staged sets are discarded, and no assembled frame
holds it in carriage any longer (log entry 17). -/
def State.freeEntry (s : State) (i : EntryIndex) : State :=
  let s := ((s.setEntry i Entry.blank).leaveAnnounce i).discardStaged i
  s.setFrames
    { s.frames with
      assembled := s.frames.assembled.map fun f => { f with carriage := f.carriage.filter fun j => decide (j ≠ i) } }

/-- Every ARMED and every COMPLETE entry closes ABANDONED with this reason (R98, R99). -/
def State.abandonPending (s : State) (reason : Reason) : State :=
  s.tableReaction fun s =>
    allSixteen.foldl (fun s i => if (s.entry i).pending = true then s.closeEntry i .abandoned (some reason) else s) s

/-- The local arrival occurs: the index joins the end of the uncarried part of the announce queue (R28, R103). -/
def State.arriveLocally (s : State) (i : EntryIndex) : State :=
  let s := s.setEntry i { s.entry i with arrived := true }
  s.setFrames
    { s.frames with announce := { s.frames.announce with uncarried := s.frames.announce.uncarried ++ [i] } }

/-- The entry enters ARMED in a round, by ARM or by a chain, with no arrival known (R84, R136). -/
def State.startArmed (s : State) (i : EntryIndex) (r : Round) : State :=
  s.setEntry i
    { s.entry i with
      state := .armed, armRound := some r, arrived := false, records := Vector.replicate 16 none, recordedLead := none
      channelCount := 0#8 }

/-- The entry is IMMEDIATE and waits for its local arrival (R103, R104). -/
def State.arrivesAtOnce (s : State) (i : EntryIndex) : Bool :=
  decide ((s.entry i).record.condition = .immediate) && s.awaits (s.entry i)

/-- An IMMEDIATE entry that waits for its local arrival arrives (R103, R104). -/
def State.arriveImmediate (s : State) (i : EntryIndex) : State :=
  if s.arrivesAtOnce i = true then s.arriveLocally i else s

/-- ARM's work: the entry is armed in a round, and an IMMEDIATE one arrives at once (R84, R104). -/
def State.armEntry (s : State) (i : EntryIndex) (r : Round) : State := (s.startArmed i r).arriveImmediate i

/-! ### Period ends, trigger edges -/

/-- A period end of a channel is counted for one entry, which arrives at its n-th (R107). -/
def State.countPeriodEnd (k : ChannelIndex) (s : State) (i : EntryIndex) : State :=
  match (s.entry i).record.condition with
  | .channel c n =>
    if c = k ∧ s.awaits (s.entry i) = true then
      let s := s.setEntry i { s.entry i with channelCount := (s.entry i).channelCount + 1#8 }
      if n.toNat ≤ (s.entry i).channelCount.toNat then s.arriveLocally i else s
    else s
  | _ => s

/-- A period-end event is delivered to the rendezvous table (R107, R152). -/
def State.deliverPeriodEnd (s : State) (k : ChannelIndex) : State := allSixteen.foldl (State.countPeriodEnd k) s

/-- A period of a running channel ends (R150, R151); a channel that is not running has no period to end. -/
def State.endPeriod (s : State) (k : ChannelIndex) : State :=
  if (s.channel k).run = .running then (s.setChannel k (s.channel k).periodEnded).deliverPeriodEnd k else s

/-- A phase wait ends (R149); a channel that is not waiting has none. -/
def State.endPhaseWait (s : State) (k : ChannelIndex) : State :=
  if (s.channel k).run = .waiting then s.setChannel k (s.channel k).phaseEnded else s

/-- The generated level falls at the high time (R150), when the position has not reached it and it lies between 1 and
period − 1. -/
def State.fall (s : State) (k : ChannelIndex) : State :=
  let c := s.channel k
  if c.run = .running ∧ c.position < c.active.high.toNat ∧ c.active.high.toNat < c.active.period.toNat then
    s.setChannel k c.fallen
  else s

/-- A channel takes a change. -/
def State.takeChange (s : State) (k : ChannelIndex) : ChannelChange → State
  | .phaseWaitEnd => s.endPhaseWait k
  | .highToLow => s.fall k
  | .periodEnd => s.endPeriod k

/-- One beat of line time passes for a channel, and the change it makes is taken at once (R154). -/
def State.advanceChannel (s : State) (k : ChannelIndex) : State :=
  match (s.channel k).nextChange with
  | none => s.setChannel k { (s.channel k).advance with owed := false }
  | some change => s.takeChange k change

/-- A change that falls at this instant and is not taken yet is taken. -/
def State.takeOwed (s : State) (k : ChannelIndex) : State :=
  if (s.channel k).owed = true then s.advanceChannel k else s

/-- Every channel that is WAITING or RUNNING advances by n beats at once, beat by beat (R154). One order of the channels
serves the owed changes and every skipped beat of the correction (log entry 5, the model's choice). The whole skip lies
within the one command that opens the slot, so that an ARM of the same instant is taken before all of its period ends or
behind them all. R108 calls them separate events and says of each that the ARM may be taken before or after it, and does
not say whether the ARM may fall between two of them: that it cannot is the model's choice (log entry 38). -/
def State.skipBeats (s : State) (order : List ChannelIndex) (n : Nat) : State :=
  (List.range n).foldl (fun s _ => order.foldl State.advanceChannel s) (order.foldl State.takeOwed s)

/-- The table takes an edge of an input: every entry that waits for it arrives, in ascending order of index (R103,
R106). -/
def State.deliverEdge (s : State) (k : InputIndex) (rising : Bool) : State :=
  allSixteen.foldl
    (fun s i =>
      match (s.entry i).record.condition with
      | .trigger input edge =>
        if input = k ∧ s.awaits (s.entry i) = true ∧
            (edge = .either ∨ (edge = .rising ∧ rising = true) ∨ (edge = .falling ∧ rising = false)) then
          s.arriveLocally i
        else s
      | _ => s) s

/-- One trigger input is sampled: an absent level is set without an edge, an equal sample changes nothing, and a
differing one makes an edge, which sets the last-edge record and is delivered (R167 to R169). -/
def State.sampleTrigger (s : State) (k : InputIndex) (high : Bool) : State :=
  match (s.trigger k).level with
  | none => s.setTrigger k { s.trigger k with level := some high }
  | some old =>
    if old = high then s
    else (s.setTrigger k { level := some high, lastEdge := some s.timer.round }).deliverEdge k high

/-! ### The round timer -/

/-- The pending correction is applied and cleared: under a negative one the channels skip, under a positive one they
have held already (R9, R153, R154). That a correction which was pending when the station entered LISTEN is applied there
like any other is the model's choice (log entry 37). -/
def State.applyCorrection (s : State) (order : List ChannelIndex) : State :=
  match s.timer.correction with
  | none => s
  | some d =>
    let s := if d < 0 then s.skipBeats order d.natAbs else s
    s.setTimer { s.timer with correction := none }

/-- The slot that follows the slot in progress (R2). -/
def RoundTimer.nextSlot (t : RoundTimer) : Station :=
  if h : t.slot.val + 1 < 16 then (if t.slot.val + 1 < t.size then ⟨t.slot.val + 1, h⟩ else 0) else 0

/-- The own slot exists: the station number is below N (R2). -/
def RoundTimer.hasOwnSlot (t : RoundTimer) : Bool := decide (t.station.val < t.size)

/-- The round number that the slot opens and own slot opens events of this instant carry: at a round boundary that of
the round that opens (R6). -/
def RoundTimer.carried (t : RoundTimer) : Round :=
  match t.boundary with
  | none => t.round
  | some b => b.opening

/-- The reactions to a boundary that closes a round, none of them taken yet (R6, log entry 3). -/
def Boundary.reached (opening : Round) : Boundary :=
  { opening := opening, due := [.view, .peers, .line, .table], records := none }

/-- A boundary of this instant whose reactions are not all taken. -/
def RoundTimer.dueBoundary (t : RoundTimer) : Option Boundary := t.boundary.filter fun b => !b.due.isEmpty

/-- The present instant is over: an opening that was not taken does not occur, and a boundary that is taken whole is
past (log entry 4). -/
def RoundTimer.later (t : RoundTimer) : RoundTimer :=
  { t with boundary := t.dueBoundary, opening := false, ownOpening := false }

/-- Beat 0 of slot 0 of the round that follows: the boundary that closes the round in progress falls at this instant,
and so does the own slot opening of station 0 (R6). The number of the round in progress goes on when the boundary is
taken (log entry 4). -/
def RoundTimer.openRound (t : RoundTimer) : RoundTimer :=
  { t with
    round := t.carried, slot := 0, beat := 0, boundary := some (Boundary.reached (t.carried + 1#16)), opening := true
    ownOpening := decide (t.station = 0) && t.hasOwnSlot }

/-- Beat 0 of a slot: the slot opens at this instant, and the own slot with it if it is that slot (R6). -/
def RoundTimer.openSlot (t : RoundTimer) (slot : Station) : RoundTimer :=
  { t.later with slot := slot, beat := 0, opening := true, ownOpening := decide (slot = t.station) && t.hasOwnSlot }

/-- The next slot is reached (R2, R6). -/
def RoundTimer.openNext (t : RoundTimer) : RoundTimer :=
  if t.nextSlot = 0 then t.openRound else t.openSlot t.nextSlot

/-- The records of the round in progress start empty and the last-closed-round view becomes empty (R27, R34). -/
def State.clearRecords (s : State) : State :=
  s.setFrames { s.frames with good := 0#16, foreign := 0#16, mark := false, view := 0#16 }

/-- The assembled own frame is dropped: beat 32 of the slot it was assembled for does not come in the line time that a
jump sets (R30, log entry 32). -/
def State.dropFrame (s : State) : State := s.setFrames { s.frames with assembled := none }

/-- The round timer jumps: line time is replaced, the pending correction is discarded, events of the former line time
that are not taken yet do not occur, and the frame receiver's records start empty (R11, R12, R27, R191). The channels
keep their places (R13, R155); where the jump falls inside a hold that has begun, the beats held so far stay held, the
hold ends with the jump, and a change that it held over is due at once (log entry 35, the model's choice). -/
def State.jump (s : State) (round : Round) (slot : Station) (beat : Nat) : State :=
  (s.setTimer
    { s.timer with
      round := round, slot := slot, beat := beat, correction := none, boundary := none, opening := false
      ownOpening := false }).clearRecords.dropFrame

/-- The round timer restarts at round 0, slot 0, beat 0 with the rate and N of the configuration record (R15, R16). -/
def State.restart (s : State) : State :=
  let s := s.jump 0#16 0 0
  s.setTimer { s.timer with rate := s.settings.rate, size := s.settings.size }

/-! ### Agreement -/

/-- The participants other than the station (R115). -/
def State.otherParticipants (s : State) (e : Entry) : List Station :=
  (members e.record.participants).filter fun k => decide (k ≠ s.timer.station)

/-- Every participant's arrival is known (R115). -/
def State.arrivalsKnown (s : State) (e : Entry) : Bool :=
  (!s.participates e || e.ownAnnounce.isSome) && (s.otherParticipants e).all fun k => (e.records[k]).isSome

/-- The announce rounds that are known (R116). -/
def State.knownRounds (s : State) (e : Entry) : List Round :=
  (if s.participates e = true then e.ownAnnounce.toList else []) ++
    (s.otherParticipants e).filterMap fun k => e.records[k]

/-- The lead by which the fire round is computed: the effective lead, or the recorded lead of an observer (R116). -/
def State.agreedLead (s : State) (e : Entry) : BitVec 4 :=
  if s.participates e = true then s.effectiveLead e else e.recordedLead.getD 0#4

/-- The fire round of an entry whose arrivals are known, in the round in progress (R116). -/
def State.fireRoundOf (s : State) (e : Entry) : Round :=
  (latestOf s.timer.round (s.knownRounds e)).getD s.timer.round + (s.agreedLead e).setWidth 16

/-- The test for completion of an ARMED entry, and what follows from it: COMPLETE in time, COMPLETE late under APPLY,
or MISSED under SKIP (R115 to R118). -/
def State.testCompletion (s : State) (i : EntryIndex) : State :=
  let e := s.entry i
  if e.state = .armed ∧ s.arrivalsKnown e = true then
    if precedes s.timer.round (s.fireRoundOf e) = true then
      s.setEntry i { e with state := .complete, fireRound := some (s.fireRoundOf e), late := false }
    else
      match e.record.late with
      | .skip => s.closeEntry i .missed none
      | .apply => s.setEntry i { e with state := .complete, fireRound := some (s.timer.round + 1#16), late := true }
  else s

/-- An arrival entry that has passed the tests of R112 is recorded for its sender (R113). -/
def State.recordArrival (s : State) (i : EntryIndex) (k : Station) (a : ArrivalEntry) : State :=
  let e := s.entry i
  match e.records[k] with
  | none => (s.setEntry i { e with records := e.records.set k (some a.announce) }).testCompletion i
  | some r =>
    if r = a.announce then s else s.setCounters { s.counters with conflicts := bump s.counters.conflicts }

/-- The two tests of an arrival entry taken to an entry: participant and lead. An observer entry without a recorded
lead takes the arrival entry's (R112). -/
def State.takeArrival (s : State) (i : EntryIndex) (k : Station) (a : ArrivalEntry) : State :=
  let e := s.entry i
  if hasStation e.record.participants k = false then s
  else if s.participates e = true then
    if s.effectiveLead e = a.lead then s.recordArrival i k a else s.raise .leadConflict
  else
    match e.recordedLead with
    | none => (s.setEntry i { e with recordedLead := some a.lead }).recordArrival i k a
    | some lead => if lead = a.lead then s.recordArrival i k a else s.raise .leadConflict

/-- The entry holds this rendezvous number (R111). -/
def Entry.numbered (e : Entry) (a : ArrivalEntry) : Bool := decide (e.record.number = a.number)

/-- The entry holds this rendezvous number and epoch (R111). -/
def Entry.named (e : Entry) (a : ArrivalEntry) : Bool :=
  decide (e.record.number = a.number) && decide (e.record.epoch = a.epoch)

/-- One arrival entry of a good frame: whether it is well dated, and to which entry it is taken (R110, R111). -/
def State.hearArrival (k : Station) (round : Round) (s : State) (a : ArrivalEntry) : State :=
  if a.announce = round ∨ precedes a.announce round = true then
    if allSixteen.any (fun i => (s.entry i).pending && (s.entry i).numbered a) = false then s
    else
      match allSixteen.find? (fun i => (s.entry i).pending && (s.entry i).named a) with
      | some i => s.takeArrival i k a
      | none =>
        if allSixteen.any (fun i => decide ((s.entry i).state ≠ .free) && (s.entry i).named a) = true then s
        else s.raise .epochConflict
  else s

/-- The arrival entries of a good frame reach the rendezvous table: one reaction (R110). -/
def State.hearArrivals (s : State) (k : Station) (round : Round) (arrivals : List ArrivalEntry) : State :=
  s.tableReaction fun s => arrivals.foldl (State.hearArrival k round) s

/-- A participant that the notice names has no arrival record in the entry (R120). -/
def Entry.lacks (e : Entry) (lost : StationSet) : Bool :=
  (members (e.record.participants &&& lost)).any fun k => (e.records[k]).isNone

/-- A loss notice reaches the rendezvous table: one reaction (R120). -/
def State.lossNotice (s : State) (lost : StationSet) : State :=
  s.tableReaction fun s =>
    allSixteen.foldl
      (fun s i =>
        if (s.entry i).state = .armed ∧ (s.entry i).lacks lost = true then s.closeEntry i .abandoned (some .peerLost)
        else s) s

/-! ### The peer table -/

/-- The record is in use: a station number below N other than the own (R62). -/
def State.peerInUse (s : State) (k : Station) : Bool := decide (k.val < s.settings.size ∧ k ≠ s.timer.station)

/-- The PRESENT set (R75). -/
def State.presentSet (s : State) : StationSet :=
  allSixteen.foldl (fun set k => if s.peerInUse k && (s.peer k).present then set ||| stationBit k else set) 0#16

/-- One peer record is replaced. -/
def State.setPeer (s : State) (k : Station) (p : PeerRecord) : State :=
  s.setPeers { s.peers with records := s.peers.records.set k p }

/-- The peer was heard in round c (R66). -/
def PeerRecord.heard (p : PeerRecord) (c : Round) : Bool := decide (p.lastRound = some c) && !p.departed

/-- The record of one peer after the close of round c (R67, R68). -/
def PeerRecord.closed (p : PeerRecord) (c : Round) (limit : Nat) : PeerRecord :=
  if p.heard c = true then { p with present := true, silence := 0 }
  else
    let silence := if p.silence < Config.maxSilence then p.silence + 1 else p.silence
    { p with silence := silence, departed := false, present := p.present && decide (silence ≠ limit) }

/-- The peers in use that satisfy a test of their record before and after the close of round c. -/
def State.peersThat (s : State) (c : Round) (test : PeerRecord → PeerRecord → Bool) : StationSet :=
  allSixteen.foldl
    (fun set k =>
      if s.peerInUse k && test (s.peer k) ((s.peer k).closed c s.settings.lossLimit) then set ||| stationBit k else set) 0#16

/-- The peer table closes round c: every record in use is closed, the joins and losses are raised, and the peers lost
are named in one notice to the rendezvous table (R66 to R70). -/
def State.closePeers (s : State) (c : Round) : State :=
  let joined := s.peersThat c fun p q => !p.present && q.present
  let lost := s.peersThat c fun p q => p.present && !q.present
  let s := allSixteen.foldl
    (fun s k => if s.peerInUse k = true then s.setPeer k ((s.peer k).closed c s.settings.lossLimit) else s) s
  let s := s.raisePeers joined lost
  if lost = 0#16 then s else s.lossNotice lost

/-- The table passes from IDLE to TRACKING with a start round; a table that tracks already keeps its own (R63). -/
def State.startTracking (s : State) (r : Round) : State :=
  if s.peers.tracking = true then s else s.setPeers { s.peers with tracking := true, startRound := some r }

/-- A good frame reaches the peer table: the last round heard and the last view are set from it (R64). -/
def State.hearPeer (s : State) (f : Frame) : State :=
  if s.peers.tracking = true then
    s.setPeer f.sender { s.peer f.sender with lastRound := some f.round, lastView := some f.view }
  else s

/-- A good LEAVE frame makes its sender ABSENT with the departed mark, raises PEER_LOST and gives a loss notice, unless
the departed mark is set already (R65). -/
def State.departPeer (s : State) (f : Frame) : State :=
  if s.peers.tracking = true ∧ (s.peer f.sender).departed = false then
    ((s.setPeer f.sender { s.peer f.sender with departed := true, present := false }).raisePeers 0#16
      (stationBit f.sender)).lossNotice (stationBit f.sender)
  else s

/-- The peers that count in P, whose view of round c lacks the station, and those that count in Q, whose view holds it
(R71). -/
def State.viewCount (s : State) (c : Round) (names : Bool) : Nat :=
  (allSixteen.filter fun k =>
    s.peerInUse k && (s.peer k).present && decide ((s.peer k).lastRound = some c) &&
      (match (s.peer k).lastView with
        | none => false
        | some v => hasStation v s.timer.station == names)).length

/-! ### The line controller -/

/-- The listen timer at its start: (2N + s) × 512 beats (R39). -/
def State.listenBeats (s : State) : Nat := (2 * s.settings.size + s.timer.station.val) * Config.slotBeats

/-- The line controller's own record at a change of state: what ends with the state that is left, and what begins with
the state that is entered (R37, R39, R49, R55). -/
def State.changedLine (s : State) (target : LineState) : LineController :=
  let l := s.line
  { l with
    state := target
    leavePending := l.leavePending && decide (target ≠ .offline)
    listen := if target = .listen then some s.listenBeats else none
    excluded := if l.state = .active then 0 else l.excluded
    hold := if l.state = .passive then 0 else l.hold
    alone := l.alone && decide (l.state ≠ .active)
    integration := if l.state = .integrating then none else l.integration }

/-- The line controller enters a state: STATE_CHANGE is raised (R59), the guarded channels follow (R58), and entry to
LISTEN or OFFLINE abandons the pending entries, clears the peer table and empties the frame receiver's records (R56,
R57). The round timer is left as it stands, with a correction that is still pending: R9 has the next slot opens apply it,
and R39 has line time count without corrections in LISTEN, so that the manual leaves a correction pending at the entry to
LISTEN open. That the model keeps it, and applies it at the next slot opens, is its choice (log entry 37). -/
def State.enter (s : State) (target : LineState) : State :=
  let s := ((s.setLine (s.changedLine target)).settleChannels).raise .stateChange
  if target = .listen then ((s.abandonPending .resync).setPeers PeerTable.cleared).clearRecords
  else if target = .offline then ((s.abandonPending .left).setPeers PeerTable.cleared).clearRecords
  else s

/-- The station adopts the timing of a received frame: the round timer jumps to the position of the sender at the
frame's end, and the station integrates over the next round (R11, R41, R46, R48, R63). -/
def State.adopt (s : State) (f : Frame) : State :=
  let s := s.jump f.round f.sender (Config.sendOffset + frameBeats f.arrivals.length)
  let s := (s.enter .integrating).startTracking (f.round + 1#16)
  s.setLine { s.line with coldSent := 0, integration := some (f.round + 1#16) }

/-! ### A station that is running -/

/-- While RESETN is low the station acts on nothing (R14, R169, R177): a command changes the state only when RESETN is
high. -/
def State.whenRunning (s : State) (act : State → State) : Answer :=
  .next (if s.resetHeld = true then s else act s)

end Sys2Proof.Machine
end

