-- ==== Sys2Proof/Machine/Firing.lean ====
section
/-!
DEFINITION. The rendezvous table's reaction to a round boundary: expiries, fires, swaps, markers and chains (Section 7,
Table 28, with R119, R160, R161 and R170).
-/

namespace Sys2Proof.Machine

/-- Step 1: the ARMED entries whose deadline round opens close EXPIRED (R119). -/
def State.expireDue (s : State) (opening : Round) : State :=
  allSixteen.foldl
    (fun s i =>
      if (s.entry i).state = .armed ∧ (s.entry i).deadlineRound = some opening then s.closeEntry i .expired none else s) s

/-- The firing set: the COMPLETE entries whose fire round opens, in a synced state (R130). -/
def State.firingSet (s : State) (opening : Round) : List EntryIndex :=
  if s.line.state.synced = true then
    allSixteen.filter fun i => decide ((s.entry i).state = .complete ∧ (s.entry i).fireRound = some opening)
  else []

/-- The pairs of a staged queue that the entries named in a swap instruction own, in queue order (R161). -/
def Channel.namedPairs (c : Channel) (named : List EntryIndex) : List StagedPair :=
  c.staged.filter fun p => named.contains p.tag

/-- The pairs that stay in the queue when an instruction names these entries (R160, R161). -/
def Channel.otherPairs (c : Channel) (named : List EntryIndex) : List StagedPair :=
  c.staged.filter fun p => !named.contains p.tag

/-- An entry adds a channel to its superseded channels (R133). -/
def State.supersede (s : State) (k : ChannelIndex) (i : EntryIndex) : State :=
  s.setEntry i { s.entry i with superseded := (s.entry i).superseded ||| channelBit k }

/-- One channel takes its swap instruction: of the pairs of the named entries the one standing latest becomes active,
the others are discarded and their entries superseded on this channel, and the old run is abandoned (R132, R133, R160,
R161). A channel that no entry of the firing set names receives no instruction. -/
def State.swapChannel (firing : List EntryIndex) (s : State) (k : ChannelIndex) : State :=
  let named := firing.filter fun i => hasChannel (s.entry i).record.channels k
  let pairs := (s.channel k).namedPairs named
  match pairs.getLast? with
  | none => s
  | some winner =>
    let t := s.setChannel k (Channel.start winner.set ((s.channel k).otherPairs named))
    (pairs.filter fun p => decide (p.tag ≠ winner.tag)).foldl (fun s p => s.supersede k p.tag) t

/-- A marker pulses for 512 beats from this instant (R170). -/
def Marker.pulse : Marker := { high := true, remaining := Config.markerBeats }

/-- The markers in the marker masks of the firing set pulse (R134). -/
def State.pulseMarkers (firing : List EntryIndex) (s : State) (k : MarkerIndex) : State :=
  if firing.any (fun i => (s.entry i).record.markers.getLsbD k.val) = true then s.setMarker k Marker.pulse else s

/-- One chain of the firing set is taken: a HELD and fully staged target is armed, a HELD one that is not staged closes
ABANDONED(NOT_STAGED), and a target that is not HELD is left (R136 to R138). -/
def State.takeChain (opening : Round) (s : State) (i : EntryIndex) : State :=
  match (s.entry i).record.chain with
  | none => s
  | some t =>
    if (s.entry t).state = .held then
      if s.fullyStaged t = true then
        let s := s.setEntry i { s.entry i with chainTaken := true }
        s.startArmed t opening
      else s.closeEntry t .abandoned (some .notStaged)
    else s

/-- Step 3 ends: the IMMEDIATE targets that the chains have armed arrive within the reaction (R104, R136). The round
boundary is one event (R6), so they join the announce queue in ascending order of their own indices (R103). -/
def State.arriveChained (before s : State) : State :=
  allSixteen.foldl (fun s i => if (before.entry i).state = .held then s.arriveImmediate i else s) s

/-- Step 4: a fired entry closes with its outcome and its actual fire round (R131). -/
def State.closeFired (opening : Round) (s : State) (i : EntryIndex) : State :=
  let s := s.setEntry i { s.entry i with actualFire := some opening }
  s.closeEntry i (if (s.entry i).late = true then .firedLate else .fired) none

/-- Steps 2 to 4 for a firing set: swaps, markers, chains in ascending order of the chaining entry, arrivals of the
IMMEDIATE targets, closes (R103, R132 to R138). -/
def State.fire (s : State) (opening : Round) (firing : List EntryIndex) : State :=
  let s := allChannels.foldl (State.swapChannel firing) s
  let s := ([0, 1] : List MarkerIndex).foldl (State.pulseMarkers firing) s
  let s := State.arriveChained s (firing.foldl (State.takeChain opening) s)
  firing.foldl (State.closeFired opening) s

/-- The rendezvous table's reaction to the boundary that opens a round (Table 28): one reaction, its completions
appended in ascending order of index (R93, R139). -/
def State.tableBoundary (s : State) (opening : Round) : State :=
  s.tableReaction fun s =>
    let s := s.expireDue opening
    s.fire opening (s.firingSet opening)

end Sys2Proof.Machine
end

