-- ==== Sys2Proof/Machine/Frames.lean ====
section
/-!
DEFINITION. The slot frames: own-frame assembly (R29), transmission (R30), the own frame's end (R32, R33, R44, R55), the
receiver's classes and deliveries (R21 to R27), and the commands OWN_SLOT_OPENS, SEND_OFFSET, OWN_FRAME_END, FRAME_END
and LINE_ACTIVITY_END.
-/

namespace Sys2Proof.Machine

/-! ### The own frame -/

/-- The states in which the own frame is assembled and sent (R29, R30). -/
def LineState.transmits : LineState → Bool
  | .coldstart => true
  | .active => true
  | _ => false

/-- The kind of the own frame (R29). -/
def State.ownKind (s : State) : FrameKind :=
  if s.line.leavePending = true then .leave else if s.line.state = .coldstart then .cold else .sync

/-- The arrival entry that represents an entry in the own frame of the round that the own slot opening carries (R29). -/
def State.ownArrival (s : State) (i : EntryIndex) : ArrivalEntry :=
  let e := s.entry i
  { number := e.record.number, epoch := e.record.epoch, lead := s.effectiveLead e
    announce := e.ownAnnounce.getD s.timer.carried }

/-- The own frame as it would be assembled at this instant (R29). -/
def State.ownFrame (s : State) : OwnFrame :=
  let named := s.frames.announce.all.take Config.maxArrivals
  { frame :=
      { kind := s.ownKind, sender := s.timer.station, round := s.timer.carried, view := s.frames.view
        arrivals := named.map s.ownArrival }
    named := named
    carriage := named.filter fun i => (s.entry i).ownAnnounce.isNone }

/-- The own slot opens: in COLDSTART and ACTIVE the own frame is assembled, in the other states nothing is (R29). -/
def State.assemble (s : State) : State :=
  if s.line.state.transmits = true then s.setFrames { s.frames with assembled := some s.ownFrame } else s

/-- The own slot opening of this instant is taken, if it has not been taken yet: the frame builder assembles (R29). -/
def State.takeOwnOpening (s : State) : State :=
  if s.timer.ownOpening = true then (s.setTimer { s.timer with ownOpening := false }).assemble else s

/-- An entry in carriage that is still pending gets the frame's round as its own announce round, which commits it, and
is tested for completion (R30, R115). -/
def State.commitCarriage (round : Round) (s : State) (i : EntryIndex) : State :=
  if (s.entry i).pending = true then
    (s.setEntry i { s.entry i with ownAnnounce := some round }).testCompletion i
  else s

/-- The rotation at the start of a transmission: the named entries that are still members move to the tail, in the
frame's order, and stand carried (R30). -/
def AnnounceQueue.rotate (q : AnnounceQueue) (named : List EntryIndex) : AnnounceQueue :=
  { uncarried := q.uncarried.filter fun i => !named.contains i
    carried := (q.carried.filter fun i => !named.contains i) ++ named.filter fun i => q.all.contains i }

/-- The line port begins to transmit the assembled frame (R30, R43). -/
def State.beginTransmission (s : State) (f : OwnFrame) : State :=
  let s := s.setFrames
    { s.frames with
      assembled := none, mark := true
      announce := s.frames.announce.rotate f.named
      transmitting := some { kind := f.frame.kind, bytes := encodeFrame f.frame, elapsed := 0 } }
  let s := s.setLine
    { s.line with
      coldSent :=
        if f.frame.kind = .cold ∧ s.line.state = .coldstart then min (s.line.coldSent + 1) Config.coldFrames
        else s.line.coldSent }
  State.noteClosed s (s.tableReaction fun s => f.carriage.foldl (State.commitCarriage f.frame.round) s)

/-- Beat 32 of the own slot: an assembled frame is transmitted if the station still transmits, and dropped otherwise;
its entries are in carriage no longer (R30). -/
def State.sendFrame (s : State) : State :=
  match s.frames.assembled with
  | none => s
  | some f =>
    if s.line.state.transmits = true then s.beginTransmission f
    else s.setFrames { s.frames with assembled := none }

/-- The read-back passes when every beat received equals the beat sent (R33). -/
def Transmission.passes (t : Transmission) (heard : List LineBeat) : Bool := decide (heard = lineBeats t.bytes)

/-- What the line controller does at the own frame's end (R44, R49, R55). -/
def State.ownFrameDone (s : State) (kind : FrameKind) (passed : Bool) : State :=
  if kind = .leave then
    if s.line.state = .offline then s else s.enter .offline
  else if kind = .cold ∧ s.line.state = .coldstart ∧ passed = false then
    (s.setLine { s.line with coldSent := 0 }).enter .listen
  else s

/-- The own frame ends: it is counted, the line is released, the read-back result is formed and handed to the line
controller (R32, R33, R35). -/
def State.endOwnFrame (s : State) (heard : List LineBeat) : State :=
  match s.frames.transmitting with
  | none => s
  | some t =>
    let passed := t.passes heard
    let s := s.passInstant
    let s := s.setFrames { s.frames with transmitting := none }
    let s := s.setCounters
      { s.counters with
        sent := bump s.counters.sent
        readBack := if passed then s.counters.readBack else bump s.counters.readBack }
    s.ownFrameDone t.kind passed

/-! ### Received frames -/

/-- The classes of a frame that is not bad (R22). -/
inductive FrameClass where
  | good
  | foreign
  deriving DecidableEq, Repr

/-- The class of a frame that is not bad, in COLDSTART, INTEGRATING, ACTIVE and PASSIVE (R8, R22). -/
def State.classify (s : State) (rx : Reception) (f : Frame) : FrameClass :=
  if rx.startBeat < Config.windowFirst ∨ Config.windowLast < rx.startBeat ∨ f.sender ≠ rx.startSlot ∨
      s.settings.size ≤ f.sender.val ∨ f.round ≠ rx.startRound ∨ f.sender = s.timer.station then .foreign
  else .good

/-- A bad frame is counted (R21, R35). -/
def State.countBad (s : State) : State := s.setCounters { s.counters with bad := bump s.counters.bad }

/-- A foreign frame, or a frame that is not bad in LISTEN, is counted (R22, R25, R35). -/
def State.countForeign (s : State) : State := s.setCounters { s.counters with foreign := bump s.counters.foreign }

/-- A foreign frame is counted, and a sender below N joins the foreign senders (R22, R23). -/
def State.hearForeign (s : State) (f : Frame) : State :=
  let s := s.countForeign
  if f.sender.val < s.settings.size then
    s.setFrames { s.frames with foreign := s.frames.foreign ||| stationBit f.sender }
  else s

/-- A good frame is counted, its sender joins the good senders, and it sets the pending correction (R9, R23, R24,
R26). -/
def State.hearGood (s : State) (rx : Reception) (f : Frame) : State :=
  let s := s.setCounters { s.counters with good := bump s.counters.good }
  let s := s.setFrames { s.frames with good := s.frames.good ||| stationBit f.sender }
  s.setTimer { s.timer with correction := some ((rx.startBeat : Int) - (Config.sendOffset : Int)) }

/-- A good frame reaches the peer table and the rendezvous table. For a LEAVE frame the arrival entries and the loss
notice are two reactions that may be taken in either order (R24, R64, R65, R121); the operand gives the order (log entry
6). R121 calls them separate reactions and does not say whether another event of the same instant, a TAKE EVENTS or an
ARM, may be taken between the two: that it cannot, since the one FRAME_END takes both, is the model's choice (log entry
39). -/
def State.deliverGood (s : State) (f : Frame) (noticeFirst : Bool) : State :=
  let s := s.hearPeer f
  if f.kind = .leave then
    if noticeFirst = true then (s.departPeer f).hearArrivals f.sender f.round f.arrivals
    else (s.hearArrivals f.sender f.round f.arrivals).departPeer f
  else s.hearArrivals f.sender f.round f.arrivals

/-- The first good frame received in ACTIVE clears the alone flag (R49). -/
def State.clearAlone (s : State) : State :=
  if s.line.state = .active then s.setLine { s.line with alone := false } else s

/-- A frame that is not bad ends in INTEGRATING, ACTIVE or PASSIVE (R22, R24). The end of a good frame never falls at a
round boundary (R115, R143). -/
def State.frameInRound (s : State) (rx : Reception) (f : Frame) (noticeFirst : Bool) : State :=
  match s.classify rx f with
  | .foreign => s.hearForeign f
  | .good => ((s.passInstant.hearGood rx f).clearAlone).deliverGood f noticeFirst

/-- The frame comes from another station of the round size (R25, R26). -/
def State.fromPeer (s : State) (f : Frame) : Bool := decide (f.sender.val < s.settings.size ∧ f.sender ≠ s.timer.station)

/-- What the line controller does with a frame handed to it in COLDSTART: a good SYNC frame makes the station ACTIVE, a
COLD frame of a lower-numbered station is adopted, and any other frame has no effect (R45, R46, R63). -/
def State.coldFrameHeard (s : State) (f : Frame) (c : FrameClass) : State :=
  if f.kind = .sync ∧ c = .good then
    ((s.setLine { s.line with coldSent := 0 }).enter .active).startTracking (s.timer.round + 1#16)
  else if f.kind = .cold ∧ f.sender.val < s.timer.station.val then s.adopt f
  else s

/-- A frame that is not bad ends in COLDSTART (R22, R26). -/
def State.frameInColdstart (s : State) (rx : Reception) (f : Frame) : State :=
  let c := s.classify rx f
  let t := match c with
    | .good => s.hearGood rx f
    | .foreign => s.hearForeign f
  if s.fromPeer f = true then t.coldFrameHeard f c else t

/-- The listen timer starts afresh (R40). -/
def State.restartListen (s : State) : State := s.setLine { s.line with listen := some s.listenBeats }

/-- A frame that is not bad ends in LISTEN: a usable SYNC or COLD frame is adopted; any other frame restarts the listen
timer (R25, R40, R41). -/
def State.frameInListen (s : State) (f : Frame) : State :=
  let s := s.countForeign
  if s.fromPeer f = true ∧ f.kind ≠ .leave then s.adopt f else s.restartListen

/-- Activity on LRX ends in LISTEN (R25, R40, R41). Activity that was in progress at the JOIN, begun while the receiver
took no notice of LRX, is heard like any other (log entry 34, the model's choice). -/
def State.listenEnds (s : State) (rx : Reception) : State :=
  match hear s.settings.rate rx with
  | .activity => s.restartListen
  | .bad => s.countBad.restartListen
  | .frame f => s.frameInListen f

/-- Activity on LRX ends outside the own transmission (Table 11): OFFLINE ignores it, LISTEN listens, and the other
states classify frames and ignore activity that is not a frame. -/
def State.activityEnds (s : State) (rx : Reception) (noticeFirst : Bool) : State :=
  match s.line.state with
  | .offline => s
  | .listen => s.listenEnds rx
  | .coldstart =>
    match hear s.settings.rate rx with
    | .activity => s
    | .bad => s.countBad
    | .frame f => s.frameInColdstart rx f
  | _ =>
    match hear s.settings.rate rx with
    | .activity => s
    | .bad => s.countBad
    | .frame f => s.frameInRound rx f noticeFirst

/-- Activity on LRX ends. While the own frame is in transmission, whatever LRX carries belongs to the read-back and does
not become a received frame (R33). A frame whose last beat ends at the very instant of beat 32 of the own slot is received
if this command is taken before SEND_OFFSET and is no received frame if it is taken behind it: the manual gives no order
there, and this is the model's choice (log entry 36). -/
def State.receptionEnds (s : State) (rx : Reception) (noticeFirst : Bool) : State :=
  if s.frames.transmitting.isSome = true then s else s.activityEnds rx noticeFirst

/-! ### The pins of the line port -/

/-- LDE is asserted while the own frame is in transmission (R7, R32). -/
def State.lde (s : State) : Bool := s.frames.transmitting.isSome

/-- What LTX drives in the present beat; none while it is not driven (R7, R32, R193). -/
def State.ltx (s : State) : Option LineBeat :=
  match s.frames.transmitting with
  | none => none
  | some t => (lineBeats t.bytes)[t.elapsed]?

/-- The beats of the frame in transmission, its start mark included (R7, R32). -/
def Transmission.beats (t : Transmission) : Nat := 16 + 8 * t.bytes.length

/-! ### The commands -/

/-- The own slot is reached by a command that names it before the SLOT_OPENS or the ROUND_BOUNDARY of the instant: the
pending correction is applied, and line time stands at beat 0 of the own slot, which for station 0 is the opening of
the next round (R6, R9, log entries 2 and 4). -/
def State.reachOwnSlot (s : State) : State :=
  let s := s.applyCorrection allChannels
  s.setTimer (if s.timer.station = 0 then s.timer.openRound else s.timer.openSlot s.timer.station)

/-- Line time stands at beat 0 of the own slot: its opening has been taken, or is due at this instant. -/
def RoundTimer.atOwnSlot (t : RoundTimer) : Bool := decide (t.slot = t.station ∧ t.beat = 0)

/-- OWN_SLOT_OPENS: beat 0 of the own slot is reached, and the frame builder assembles, once (R6, R29). A station number
of N or above has no own slot (R2). -/
def execOwnSlotOpens (s : State) : Answer :=
  s.whenRunning fun s =>
    if s.timer.hasOwnSlot = true then (if s.timer.atOwnSlot = true then s else s.reachOwnSlot).takeOwnOpening else s

/-- SEND_OFFSET: line time stands at beat 32 of the own slot, and the assembled frame is transmitted or dropped (R30).
-/
def execSendOffset (s : State) : Answer :=
  s.whenRunning fun s =>
    if s.timer.hasOwnSlot = true then
      (s.setTimer { s.timer.later with slot := s.timer.station, beat := Config.sendOffset }).sendFrame
    else s

/-- OWN_FRAME_END (R32, R33). -/
def execOwnFrameEnd (heard : List LineBeat) (s : State) : Answer :=
  s.whenRunning fun s => s.endOwnFrame heard

/-- FRAME_END (R21 to R27). -/
def execFrameEnd (rx : Reception) (noticeFirst : Bool) (s : State) : Answer :=
  s.whenRunning fun s => s.receptionEnds rx noticeFirst

/-- LINE_ACTIVITY_END: activity ends in LISTEN, and not during the own transmission; otherwise the row does not occur
(R25, R33, R40, log entry 23). -/
def execLineActivityEnd (rx : Reception) (s : State) : Answer :=
  s.whenRunning fun s => if s.line.state = .listen then s.receptionEnds rx false else s

end Sys2Proof.Machine
end

