-- ==== Sys2Proof/Machine/LineTime.lean ====
section
/-!
DEFINITION. Line time: SLOT_OPENS (R6, R9), LISTEN_TIMER_EXPIRY (R42) and ROUND_BOUNDARY (R6) with the reactions of the
frame receiver (R34), the peer table (R66) and the line controller (R47 to R55).
-/

namespace Sys2Proof.Machine

/-! ### The frame receiver and the peer table at a boundary -/

/-- The view of a round: its good senders, and the station itself if the transmitted mark is set (R34). -/
def RoundRecords.view (r : RoundRecords) (station : Station) : StationSet :=
  r.good ||| (if r.mark = true then stationBit station else 0#16)

/-- The frame receiver forms the view of the closing round from its records; in LISTEN and OFFLINE, which empty them at
their entry, every view is empty (R34). -/
def State.formView (s : State) (r : RoundRecords) : State :=
  s.setFrames
    { s.frames with
      view := if s.line.state = .offline ∨ s.line.state = .listen then 0#16 else r.view s.timer.station }

/-- The peer table's reaction to the boundary that closes round c: it closes the round unless it is IDLE or its start
round lies ahead (R66). -/
def State.peersBoundary (s : State) (c : Round) : State :=
  if s.peers.tracking = true then
    match s.peers.startRound with
    | none => s.closePeers c
    | some r => if r = c then (s.setPeers { s.peers with startRound := none }).closePeers c else s
  else s

/-! ### The line controller at a boundary -/

/-- The lowest member of a station set; 16 for the empty set (R51). -/
def lowest (set : StationSet) : Nat :=
  match members set with
  | [] => 16
  | k :: _ => k.val

/-- The yield check: the other side has more members, or as many, at least one, and the lower lowest number (R51). -/
def yields (own other : StationSet) : Bool :=
  decide ((members own).length < (members other).length) ||
    (decide ((members own).length = (members other).length) && decide (other ≠ 0#16) && decide (lowest other < lowest own))

/-- The station yields to LISTEN; with leave pending it leaves for OFFLINE instead, without YIELDED (R51, R55). -/
def State.yield (s : State) : State :=
  if s.line.leavePending = true then s.enter .offline else (s.enter .listen).raise .yielded

/-- The exclusion check of an ACTIVE station (R52, R55, R71). -/
def State.exclusionCheck (s : State) (c : Round) : State :=
  if s.viewCount c true < s.viewCount c false then
    if s.line.excluded + 1 < Config.exclusionLimit then s.setLine { s.line with excluded := s.line.excluded + 1 }
    else if s.line.leavePending = true then s.enter .offline
    else
      let s := s.setLine { s.line with hold := 0 }
      s.enter .passive
  else s.setLine { s.line with excluded := 0 }

/-- The passive hold advances, and at the eighth boundary the station integrates again (R48, R53). -/
def State.passiveHold (s : State) (opening : Round) : State :=
  if s.line.hold + 1 < Config.passiveRounds then s.setLine { s.line with hold := s.line.hold + 1 }
  else
    let s := s.enter .integrating
    s.setLine { s.line with integration := some opening }

/-- The fourth COLD frame has gone out unanswered: the station is ACTIVE and alone (R47, R63). -/
def State.becomeAlone (s : State) (opening : Round) : State :=
  let s := (s.enter .active).startTracking opening
  (s.setLine { s.line with alone := true, coldSent := 0 }).raise .alone

/-- The integration round closes: with a good sender the station is ACTIVE, without one it falls to LISTEN (R48). -/
def State.integrationEnds (s : State) (good : StationSet) : State :=
  if good = 0#16 then s.enter .listen else s.enter .active

/-- The line controller's reaction to the boundary that closes round c and opens the next: it evaluates the good and
foreign senders that the frame receiver hands over (R47, R48, R50 to R53). -/
def State.lineBoundary (s : State) (c opening : Round) (good foreign : StationSet) : State :=
  match s.line.state with
  | .offline => s
  | .listen => s
  | .coldstart => if s.line.coldSent = Config.coldFrames then s.becomeAlone opening else s
  | .integrating => if s.line.integration = some c then s.integrationEnds good else s
  | .active =>
    if yields (good ||| stationBit s.timer.station) foreign = true then s.yield else s.exclusionCheck c
  | .passive => if yields good foreign = true then s.yield else s.passiveHold opening

/-! ### The boundary -/

/-- The rendezvous table's reaction to the boundary. The number of the round in progress goes on with it, so that ARM
finds the closing round before this reaction and the opening round behind it (R3, R84, R86, log entry 4), and a CANCEL
behind it at this instant the entries that it closed (R89, log entry 33). -/
def State.openTable (s : State) (opening : Round) : State :=
  State.noteClosed s ((s.setTimer { s.timer with round := opening }).tableBoundary opening)

/-- What one block does at the boundary that opens a round, with the records of the closing round (R6, log entry 3). The
assembly is not one of the boundary's own reactions: it belongs to the own slot opens event. -/
def State.reactionOf (s : State) (opening : Round) (r : RoundRecords) : BoundaryReaction → State
  | .view => s.formView r
  | .peers => s.peersBoundary (opening - 1#16)
  | .line => s.lineBoundary (opening - 1#16) opening r.good r.foreign
  | .table => s.openTable opening
  | .assembly => s

/-- The frame receiver's records of the round in progress (R23). -/
def State.records (s : State) : RoundRecords :=
  { good := s.frames.good, foreign := s.frames.foreign, mark := s.frames.mark }

/-- The boundary with one reaction taken. -/
def Boundary.without (b : Boundary) (x : BoundaryReaction) : Boundary :=
  { b with due := b.due.filter fun y => decide (y ≠ x) }

/-- One reaction is taken, if the boundary of this instant still has it due. The assembly is station 0's, whose own slot
opens at the boundary (R29). -/
def State.react (s : State) (x : BoundaryReaction) : State :=
  if x = .assembly then (if s.timer.station = 0 then s.takeOwnOpening else s)
  else
    match s.timer.boundary with
    | none => s
    | some b =>
      if x ∈ b.due then
        (s.setTimer { s.timer with boundary := some (b.without x) }).reactionOf b.opening (b.records.getD s.records) x
      else s

/-- The end of slot N − 1 is reached by a command that names it before the SLOT_OPENS of the instant: the pending
correction is applied, and line time stands at beat 0 of slot 0 (R6, R9, log entries 4 and 5). -/
def State.reachRound (s : State) : State :=
  let s := s.applyCorrection allChannels
  s.setTimer s.timer.openRound

/-- The boundary is taken: it is that of this instant, or, with none due, the one that the command says has come. The
frame receiver hands over the records of the closing round, once, and starts them empty (R23). -/
def State.beginBoundary (s : State) : State :=
  let s := if s.timer.dueBoundary.isSome = true then s else s.reachRound
  match s.timer.boundary with
  | none => s
  | some b =>
    if b.records.isSome = true then s
    else
      (s.setTimer { s.timer with boundary := some { b with records := some s.records } }).setFrames
        { s.frames with good := 0#16, foreign := 0#16, mark := false }

/-- The round boundary: the blocks named react, in the order given; a boundary whose reactions are not all named stays
due with the rest (R6). -/
def State.takeBoundary (s : State) (order : List BoundaryReaction) : State :=
  order.foldl State.react s.beginBoundary

/-- The listen timer expires: the station starts a round of its own, the round timer makes the cold-start jump, and the
own slot opens at that instant (R12, R42). -/
def State.expireListen (s : State) : State :=
  let s := s.setLine { s.line with coldSent := 0 }
  ((s.enter .coldstart).jump 0#16 s.timer.station 0).assemble

/-! ### The commands -/

/-- The next slot opens, or the opening of this instant is taken where another command has brought the instant about: a
ROUND_BOUNDARY or an OWN_SLOT_OPENS taken first (R6). -/
def State.openSlot (s : State) (order : List ChannelIndex) : State :=
  if s.timer.opening = true then s.setTimer { s.timer with opening := false }
  else
    let s := s.applyCorrection (channelOrder order)
    s.setTimer { s.timer.openNext with opening := false }

/-- SLOT_OPENS: the pending correction is applied and cleared, and beat 0 of the next slot is reached (R6, R9, R153,
R154). -/
def execSlotOpens (order : List ChannelIndex) (s : State) : Answer :=
  s.whenRunning fun s => s.openSlot order

/-- ROUND_BOUNDARY (R6). -/
def execRoundBoundary (order : List BoundaryReaction) (s : State) : Answer :=
  s.whenRunning fun s => s.takeBoundary order

/-- LISTEN_TIMER_EXPIRY: the timer runs in LISTEN only (R39, R42). -/
def execListenTimerExpiry (s : State) : Answer :=
  s.whenRunning fun s => if s.line.state = .listen then s.expireListen else s

end Sys2Proof.Machine
end

