-- ==== Sys2Proof/Machine/Reset.lean ====
section
/-!
DEFINITION. The two resets: RESETN_LOW and RESETN_RELEASE (R14, R60, R177, R184), and the port reset that the RESET
command makes (R15, R191).
-/

namespace Sys2Proof.Machine

/-- RESETN is low: every block stands at its reset value (R14, R36, R60, R73, R101, R166, R169, R171, R176, R184, R185).
The queue of commands and the counter of free choices are the model's own and stay. -/
def State.pullReset (s : State) : State :=
  { State.held with choices := s.choices, pending := s.pending }

/-- RESETN is released: the straps are sampled, and the round timer starts at round 0, slot 0, beat 0 with the default
rate and round size. The slot opens event of slot 0, and for station 0 the own slot opens event, find the station
OFFLINE and change nothing. The port waits for PCS to rise where PCS is low (R5, R14, R29, R177). -/
def State.releaseReset (s : State) (straps : BitVec 4) (pcsLow : Bool) : State :=
  let s := s.setTimer { RoundTimer.start with station := straps.toFin }
  let s := s.setPort { Port.idle with state := if pcsLow = true then .deselectWait else .idle }
  { s with resetHeld := false }

/-- A port reset keeps the sampled level and makes the last-edge record absent (R169). -/
def Trigger.portReset (t : Trigger) : Trigger := { t with lastEdge := none }

/-- The port reset: every block takes its port-reset values; the station number, the configuration values, the sampled
levels and the port's own transaction are kept (R15, R191, R192). -/
def State.portReset (s : State) : State :=
  let s := s.setFrames FrameLayer.empty
  let s := s.setCounters Counters.zero
  let s := s.setLine LineController.offline
  let s := s.setPeers PeerTable.cleared
  let s := s.setEntries (Vector.replicate 16 Entry.blank)
  let s := s.setCompletions []
  let s := s.setChannels (Vector.replicate 8 Channel.afterReset)
  let s := ([0, 1, 2, 3] : List InputIndex).foldl (fun s k => s.setTrigger k (s.trigger k).portReset) s
  let s := s.setMarkers (Vector.replicate 2 Marker.low)
  let s := s.setLatches Latches.empty
  let s := s.setLocked false
  s.restart

/-- RESETN_LOW (R14, R60, R184). -/
def execResetnLow (s : State) : Answer :=
  .next s.pullReset

/-- RESETN_RELEASE: a release ends the low level that came before it; where none came, the command stands for the whole
pulse (R14, R177, log entry 9). -/
def execResetnRelease (straps : BitVec 4) (pcsLow : Bool) (s : State) : Answer :=
  .next (s.pullReset.releaseReset straps pcsLow)

end Sys2Proof.Machine
end

