-- ==== Sys2Proof/Machine/Responses.lean ====
section
/-!
DEFINITION. The bytes of the local port: command bytes, argument counts and response lengths (Table 47), result bytes
(Table 48), and the layouts of the responses (R195, Tables 52 to 55).
-/

namespace Sys2Proof.Machine

/-! ### Commands and results -/

/-- The command byte of a command (Table 47). -/
def PortCommand.byte : PortCommand → Byte
  | .configure => 0x10#8
  | .reset => 0x11#8
  | .readStatus => 0x12#8
  | .readCounters => 0x13#8
  | .join => 0x20#8
  | .leave => 0x21#8
  | .load => 0x30#8
  | .arm => 0x31#8
  | .arrive => 0x32#8
  | .cancel => 0x33#8
  | .pop => 0x34#8
  | .readEntry => 0x35#8
  | .stage => 0x40#8
  | .unstage => 0x41#8
  | .readChannel => 0x42#8
  | .takeEvents => 0x50#8

/-- Every command of the port (Table 42). -/
def allCommands : List PortCommand :=
  [.configure, .reset, .readStatus, .readCounters, .join, .leave, .load, .arm, .arrive, .cancel, .pop, .readEntry, .stage,
   .unstage, .readChannel, .takeEvents]

/-- The command that a byte names: none for an unknown command byte (R179). -/
def commandOf (b : Byte) : Option PortCommand := allCommands.find? fun c => decide (c.byte = b)

/-- The number of argument bytes of a command (Table 47). -/
def PortCommand.argBytes : PortCommand → Nat
  | .configure => 4
  | .load => 13
  | .arm => 1
  | .arrive => 1
  | .cancel => 1
  | .readEntry => 1
  | .stage => 13
  | .unstage => 2
  | .readChannel => 1
  | .reset => 0
  | .readStatus => 0
  | .readCounters => 0
  | .join => 0
  | .leave => 0
  | .pop => 0
  | .takeEvents => 0

/-- The number of data bytes of a command's response (Table 47). -/
def PortCommand.dataBytes : PortCommand → Nat
  | .readStatus => 21
  | .readCounters => 12
  | .pop => 8
  | .readEntry => 60
  | .readChannel => 67
  | .takeEvents => 5
  | .configure => 0
  | .reset => 0
  | .join => 0
  | .leave => 0
  | .load => 0
  | .arm => 0
  | .arrive => 0
  | .cancel => 0
  | .stage => 0
  | .unstage => 0

/-- What a command commits when its response has been read in full (R180, Table 42). -/
def PortCommand.commit : PortCommand → Option Commit
  | .pop => some .pop
  | .takeEvents => some .takeEvents
  | .readCounters => some .readCounters
  | .configure => none
  | .reset => none
  | .readStatus => none
  | .join => none
  | .leave => none
  | .load => none
  | .arm => none
  | .arrive => none
  | .cancel => none
  | .readEntry => none
  | .stage => none
  | .unstage => none
  | .readChannel => none

/-- The result byte (Table 48). -/
def ResultCode.byte : ResultCode → Byte
  | .ok => 0x00#8
  | .badCommand => 0x01#8
  | .badArg => 0x02#8
  | .badConfig => 0x03#8
  | .wrongState => 0x04#8
  | .notSynced => 0x05#8
  | .full => 0x06#8
  | .empty => 0x07#8
  | .locked => 0x08#8
  | .notStaged => 0x09#8
  | .duplicate => 0x0A#8
  | .committed => 0x0B#8

/-- What the block that owns a command answers: the state it leaves, the result, and the data of the response (R180). -/
structure Reply where
  state : State
  result : ResultCode
  data : List Byte
  deriving DecidableEq, Repr

/-- A refusal changes nothing in any block (Table 41). -/
def State.refuse (s : State) (r : ResultCode) : Reply := { state := s, result := r, data := [] }

/-- The command is carried out, and its response has no data. -/
def State.accept (s : State) : Reply := { state := s, result := .ok, data := [] }

/-- The command is carried out and changes nothing but what it commits later. -/
def State.report (s : State) (data : List Byte) : Reply := { state := s, result := .ok, data := data }

/-! ### Codes -/

/-- The line state code (Table 52). -/
def LineState.code : LineState → BitVec 3
  | .offline => 0#3
  | .listen => 1#3
  | .coldstart => 2#3
  | .integrating => 3#3
  | .active => 4#3
  | .passive => 5#3

/-- The entry state code (Table 54). -/
def EntryState.code : EntryState → BitVec 3
  | .free => 0#3
  | .held => 1#3
  | .armed => 2#3
  | .complete => 3#3
  | .done => 4#3

/-- The outcome code; 0 for none (Table 53). -/
def outcomeCode : Option EntryOutcome → BitVec 4
  | none => 0#4
  | some .fired => 1#4
  | some .firedLate => 2#4
  | some .missed => 3#4
  | some .expired => 4#4
  | some .abandoned => 5#4

/-- The reason code; 0 for none (Table 53). -/
def reasonCode : Option Reason → BitVec 4
  | none => 0#4
  | some .cancelled => 1#4
  | some .peerLost => 2#4
  | some .resync => 3#4
  | some .left => 4#4
  | some .notStaged => 5#4

/-- The channel state code (Table 55). -/
def RunState.code : RunState → BitVec 2
  | .idle => 0#2
  | .waiting => 1#2
  | .running => 2#2
  | .finished => 3#2

/-- A round field that may be absent reads 0 when it is (R195). -/
def roundBytes (r : Option Round) : List Byte := bytes16 (r.getD 0#16)

/-! ### The layouts -/

/-- READ STATUS data (R188, Table 52). -/
def State.statusBytes (s : State) : List Byte :=
  [bitOf s.line.leavePending ++ bitOf s.line.alone ++ bitOf (decide (s.line.excluded = 1)) ++ bitOf s.locked ++ 0#1 ++
      s.line.state.code,
   0#4 ++ (BitVec.ofFin s.timer.station : BitVec 4)] ++
    bytes16 s.timer.round ++ bytes16 s.frames.view ++ bytes16 s.presentSet ++ encodeSettings s.settings ++
    [0#4 ++ bitOf (s.trigger 3).lastEdge.isSome ++ bitOf (s.trigger 2).lastEdge.isSome ++
      bitOf (s.trigger 1).lastEdge.isSome ++ bitOf (s.trigger 0).lastEdge.isSome] ++
    roundBytes (s.trigger 0).lastEdge ++ roundBytes (s.trigger 1).lastEdge ++ roundBytes (s.trigger 2).lastEdge ++
    roundBytes (s.trigger 3).lastEdge

/-- READ COUNTERS data (R189, Table 53). -/
def Counters.toBytes (c : Counters) : List Byte :=
  bytes16 c.good ++ bytes16 c.bad ++ bytes16 c.foreign ++ bytes16 c.sent ++ bytes16 c.readBack ++ bytes16 c.conflicts

/-- TAKE EVENTS data (R174, Table 53). -/
def Latches.toBytes (l : Latches) : List Byte := [l.latched] ++ bytes16 l.joined ++ bytes16 l.lost

/-- The completion record of an entry (R95, R195, Table 53). The actual fire round is that of FIRED and FIRED_LATE
only, the outcomes at which it is set (R131). -/
def Entry.completionBytes (e : Entry) (i : EntryIndex) : List Byte :=
  [0#4 ++ (BitVec.ofFin i : BitVec 4), 0#2 ++ e.record.number, e.record.epoch, outcomeCode e.outcome ++ reasonCode e.reason] ++
    roundBytes e.actualFire ++ [e.superseded, bitOf e.chainTaken ++ bitOf e.actualFire.isSome ++ 0#6]

/-- The set of the stations whose arrival record is present (Table 54). -/
def Entry.recordSet (e : Entry) : StationSet :=
  allSixteen.foldl (fun set k => if (e.records[k]).isSome = true then set ||| stationBit k else set) 0#16

/-- READ ENTRY data (R97, R102, R195, Table 54). -/
def State.entryBytes (s : State) (i : EntryIndex) : List Byte :=
  let e := s.entry i
  [bitOf (s.frames.announce.all.contains i) ++ bitOf (s.inCarriage i) ++ bitOf e.arrived ++ bitOf e.late ++
      bitOf e.chainTaken ++ e.state.code,
   bitOf e.armRound.isSome ++ bitOf e.ownAnnounce.isSome ++ bitOf e.recordedLead.isSome ++ bitOf e.fireRound.isSome ++
      bitOf e.actualFire.isSome ++ 0#3] ++
    encodeRecord e.record ++ roundBytes e.armRound ++ roundBytes e.ownAnnounce ++ roundBytes e.fireRound ++
    roundBytes e.actualFire ++
    [0#4 ++ e.recordedLead.getD 0#4, e.channelCount, outcomeCode e.outcome ++ reasonCode e.reason, e.superseded] ++
    bytes16 e.recordSet ++ allSixteen.flatMap fun k => roundBytes e.records[k]

/-- The phase remaining in WAITING, the position in RUNNING, 0 otherwise (R165). -/
def Channel.place (c : Channel) : Nat :=
  match c.run with
  | .waiting => c.phaseRemaining
  | .running => c.position
  | .idle => 0
  | .finished => 0

/-- The four staged slots of 12 bytes; a slot beyond the number of pairs reads 0 (R195, Table 55). -/
def stagedSlots (pairs : List StagedPair) : List Byte :=
  ((pairs.flatMap fun p => (0#4 ++ (BitVec.ofFin p.tag : BitVec 4)) :: encodeSet p.set) ++ List.replicate 48 0#8).take 48

/-- READ CHANNEL data (R165, Table 55). -/
def Channel.toBytes (c : Channel) : List Byte :=
  encodeSet c.active ++
    [c.run.code ++ bitOf c.forced ++ bitOf c.pin ++ 0#1 ++ BitVec.ofNat 3 c.staged.length] ++
    bytes24 (BitVec.ofNat 24 c.place) ++ bytes16 (BitVec.ofNat 16 c.periodsRemaining) ++ bytes16 c.periodEnds ++
    stagedSlots c.staged

end Sys2Proof.Machine
end

