-- ==== Sys2Proof/Machine/Table.lean ====
section
/-!
DEFINITION. What the commands LOAD, ARM, ARRIVE, CANCEL, POP, READ ENTRY, STAGE, UNSTAGE and READ CHANNEL do to the
rendezvous table and the staged queues at their command events (Sections 5, 6 and 8).
-/

namespace Sys2Proof.Machine

/-- Another entry that is not FREE holds the same rendezvous number and the same epoch (R81). -/
def State.holdsName (s : State) (i : EntryIndex) (r : LoadedRecord) : Bool :=
  allSixteen.any fun j =>
    decide (j ≠ i ∧ (s.entry j).state ≠ .free ∧ (s.entry j).record.number = r.number ∧ (s.entry j).record.epoch = r.epoch)

/-- LOAD (R81). -/
def loadCommand (index : Byte) (record : List Byte) (s : State) : Reply :=
  match indexOf index with
  | none => s.refuse .badArg
  | some i =>
    if (s.entry i).state ≠ .free then s.refuse .wrongState
    else
      match decodeRecord record with
      | none => s.refuse .badArg
      | some r =>
        if legalRecord s.settings.size s.timer.station i r = false then s.refuse .badArg
        else if s.holdsName i r = true then s.refuse .duplicate
        else (s.setEntry i { Entry.blank with state := .held, record := r }).accept

/-- ARM (R84). -/
def armCommand (index : Byte) (s : State) : Reply :=
  match indexOf index with
  | none => s.refuse .badArg
  | some i =>
    if (s.entry i).state ≠ .held then s.refuse .wrongState
    else if s.line.state.synced = false then s.refuse .notSynced
    else if s.fullyStaged i = false then s.refuse .notStaged
    else (s.armEntry i s.timer.round).accept

/-- ARRIVE (R105). -/
def arriveCommand (index : Byte) (s : State) : Reply :=
  match indexOf index with
  | none => s.refuse .badArg
  | some i =>
    if (s.entry i).state ≠ .armed then s.refuse .wrongState
    else if (s.entry i).record.condition ≠ .command then s.refuse .badArg
    else if (s.entry i).arrived = true then s.refuse .duplicate
    else (s.arriveLocally i).accept

/-- The present instant is still that of a round boundary whose table's reaction is taken, which is beat 0 of slot 0, or
that of the start of a transmission, beat 32 of the own slot (R3, R30). -/
def State.atClosing (s : State) : Bool :=
  (match s.timer.boundary with
    | none => false
    | some b => decide (.table ∉ b.due ∧ s.timer.slot = 0 ∧ s.timer.beat = 0)) ||
    (match s.frames.transmitting with
      | none => false
      | some x => decide (x.elapsed = 0 ∧ s.timer.slot = s.timer.station ∧ s.timer.beat = 32))

/-- The entry has closed at this very instant, by the round boundary or by the start of the transmission that carried its
arrival for the first time (R89), and no event past the instant has been taken since (R183, log entry 33). -/
def State.closedAtInstant (s : State) (i : EntryIndex) : Bool := s.port.closedNow.contains i && s.atClosing

/-- CANCEL (R88). A committed entry that a round boundary or the start of its transmission has closed at this same
instant is refused COMMITTED, as R89 says of either order, where R88 alone would say WRONG_STATE of a DONE entry; the
two rules conflict there, and the model follows R89 (log entry 33, the model's choice). -/
def cancelCommand (index : Byte) (s : State) : Reply :=
  match indexOf index with
  | none => s.refuse .badArg
  | some i =>
    match (s.entry i).state with
    | .free => s.refuse .wrongState
    | .done => s.refuse (if s.committed i = true ∧ s.closedAtInstant i = true then .committed else .wrongState)
    | .held => (s.freeEntry i).accept
    | .armed =>
      if s.committed i = true then s.refuse .committed
      else (s.tableReaction fun s => s.closeEntry i .abandoned (some .cancelled)).accept
    | .complete =>
      if s.committed i = true then s.refuse .committed
      else (s.tableReaction fun s => s.closeEntry i .abandoned (some .cancelled)).accept

/-- POP reports the head of the completion queue; the removal is its commit (R95, R96). -/
def popCommand (s : State) : Reply :=
  match s.completions with
  | [] => s.refuse .empty
  | i :: _ => s.report ((s.entry i).completionBytes i)

/-- The commit of POP: the entry at the head returns to FREE and leaves the queue (R96). -/
def State.commitPop (s : State) : State :=
  match s.completions with
  | [] => s
  | i :: rest => (s.setCompletions rest).freeEntry i

/-- READ ENTRY (R97). -/
def readEntryCommand (index : Byte) (s : State) : Reply :=
  match indexOf index with
  | none => s.refuse .badArg
  | some i => s.report (s.entryBytes i)

/-- The pair of an entry takes a new set in its place, or a new pair is appended at the tail (R157). -/
def Channel.stage (c : Channel) (i : EntryIndex) (set : ChannelSet) : Channel :=
  if c.isStaged i = true then
    { c with staged := c.staged.map fun p => if p.tag = i then { p with set := set } else p }
  else { c with staged := c.staged ++ [{ tag := i, set := set }] }

/-- STAGE (R157). -/
def stageCommand (channel index : Byte) (set : List Byte) (s : State) : Reply :=
  match channelOf channel, indexOf index with
  | some k, some i =>
    match decodeSet set with
    | none => s.refuse .badArg
    | some set =>
      match (s.entry i).state with
      | .armed => s.refuse .locked
      | .complete => s.refuse .locked
      | .free => s.refuse .wrongState
      | .done => s.refuse .wrongState
      | .held =>
        if hasChannel (s.entry i).record.channels k = false then s.refuse .badArg
        else if (s.channel k).isStaged i = false ∧ Config.stagedCapacity ≤ (s.channel k).staged.length then s.refuse .full
        else (s.setChannels (s.channels.set k ((s.channel k).stage i set))).accept
  | _, _ => s.refuse .badArg

/-- UNSTAGE (R158). -/
def unstageCommand (channel index : Byte) (s : State) : Reply :=
  match channelOf channel, indexOf index with
  | some k, some i =>
    if (s.channel k).isStaged i = false then s.refuse .empty
    else if (s.entry i).pending = true then s.refuse .locked
    else (s.setChannels (s.channels.set k ((s.channel k).discard i))).accept
  | _, _ => s.refuse .badArg

/-- READ CHANNEL (R165). -/
def readChannelCommand (channel : Byte) (s : State) : Reply :=
  match channelOf channel with
  | none => s.refuse .badArg
  | some k => s.report (s.channel k).toBytes

end Sys2Proof.Machine
end

