-- ==== Sys2Proof/Machine/Port.lean ====
section
/-!
DEFINITION. The local port (Section 10): what CONFIGURE, RESET, READ STATUS, READ COUNTERS, JOIN, LEAVE and TAKE EVENTS
do, the command event (R180), the bits of a transaction (R178, R179, R181), its end (R182), and the commands of the
port as rows of the table.
-/

namespace Sys2Proof.Machine

/-! ### The commands of the port itself and of the line controller -/

/-- An entry that is HELD with a participant at or above the new N returns to FREE (R83). -/
def State.freeUnfit (s : State) (n : Nat) : State :=
  allSixteen.foldl
    (fun s i =>
      if (s.entry i).state = .held ∧ allBelow n (s.entry i).record.participants = false then s.freeEntry i else s) s

/-- CONFIGURE (R186, R187). -/
def configureCommand (args : List Byte) (s : State) : Reply :=
  if s.locked = true then s.refuse .locked
  else
    match decodeSettings args with
    | none => s.refuse .badArg
    | some c => (((s.setSettings c).restart).freeUnfit c.size).accept

/-- RESET: the port reset; the transaction's own state is kept (R191, R192). -/
def resetCommand (s : State) : Reply := s.portReset.accept

/-- READ STATUS (R188). -/
def readStatusCommand (s : State) : Reply := s.report s.statusBytes

/-- READ COUNTERS (R189). -/
def readCountersCommand (s : State) : Reply := s.report s.counters.toBytes

/-- JOIN (R38). -/
def joinCommand (s : State) : Reply :=
  if s.line.state ≠ .offline then s.refuse .wrongState
  else if s.settings.size ≤ s.timer.station.val then s.refuse .badConfig
  else ((s.setLocked true).enter .listen).accept

/-- LEAVE (R54). -/
def leaveCommand (s : State) : Reply :=
  match s.line.state with
  | .offline => s.refuse .wrongState
  | .active => (s.setLine { s.line with leavePending := true }).accept
  | _ => (s.enter .offline).accept

/-- TAKE EVENTS reports the three sets and opens the report (R174). -/
def takeEventsCommand (s : State) : Reply :=
  (s.setLatches s.latches.openReport).report s.latches.toBytes

/-- The block that owns the command acts on the command and its argument bytes (R180, Table 42). A command with
another number of argument bytes than Table 47's never has its event; it is refused BAD_ARG (log entry 12). -/
def runCommand : PortCommand → List Byte → State → Reply
  | .configure, args, s => configureCommand args s
  | .reset, _, s => resetCommand s
  | .readStatus, _, s => readStatusCommand s
  | .readCounters, _, s => readCountersCommand s
  | .join, _, s => joinCommand s
  | .leave, _, s => leaveCommand s
  | .load, index :: record, s => loadCommand index record s
  | .arm, [index], s => armCommand index s
  | .arrive, [index], s => arriveCommand index s
  | .cancel, [index], s => cancelCommand index s
  | .pop, _, s => popCommand s
  | .readEntry, [index], s => readEntryCommand index s
  | .stage, channel :: index :: set, s => stageCommand channel index set s
  | .unstage, [channel, index], s => unstageCommand channel index s
  | .readChannel, [channel], s => readChannelCommand channel s
  | .takeEvents, _, s => takeEventsCommand s
  | _, _, s => s.refuse .badArg

/-! ### The command event -/

/-- The response snapshot: the result byte, then the data, all 0 after a refusal (R180, R195). -/
def Reply.snapshot (r : Reply) (c : PortCommand) : List Byte :=
  r.result.byte :: (if r.result = .ok then r.data else List.replicate c.dataBytes 0#8)

/-- The owning block is handed the command, not the transaction that carried it: it acts on a station whose
transaction state is empty, and `Reply.finish` puts the transaction's own state in place after it (R180, R192). What the
present instant has closed stands until then (R89). -/
def State.handCommand (s : State) (run : State → Reply) : Reply :=
  run (s.setPort { Port.idle with closedNow := s.port.closedNow })

/-- The command event: the owning block has answered; the port takes the snapshot, sets what is to be committed, and
enters TURNAROUND (R180). -/
def Reply.finish (r : Reply) (c : PortCommand) (args : List Byte) : State :=
  r.state.setPort
    { state := .turnaround, bits := 0, shift := 0#8, command := some c.byte, args := args, needed := c.argBytes
      snapshot := some (r.snapshot c), shifted := 0
      commit := if r.result = .ok then c.commit else none }

/-- The answer to an unknown command byte: BAD_COMMAND without data, and nothing else (R179). -/
def State.answerUnknown (s : State) (b : Byte) : State :=
  s.setPort
    { state := .turnaround, bits := 0, shift := 0#8, command := some b, args := [], needed := 0
      snapshot := some [ResultCode.badCommand.byte], shifted := 0, commit := none }

/-! ### The bits of a transaction -/

/-- A command byte is received (R179). -/
def State.commandReceived (s : State) (b : Byte) : State :=
  match commandOf b with
  | none => s.answerUnknown b
  | some c =>
    if c.argBytes = 0 then (s.handCommand (runCommand c [])).finish c []
    else
      s.setPort
        { s.port with
          state := .arguments, bits := 0, shift := 0#8, command := some b, args := [], needed := c.argBytes
          closedNow := [] }

/-- An argument byte is received; the last one is the command event (R179, R180). -/
def State.argumentReceived (s : State) (b : Byte) : State :=
  let args := s.port.args ++ [b]
  if args.length < s.port.needed then s.setPort { s.port with bits := 0, shift := 0#8, args := args, closedNow := [] }
  else
    match s.port.command.bind commandOf with
    | none => s
    | some c => (s.handCommand (runCommand c args)).finish c args

/-- A bit is taken into the byte being received, most significant bit first (R178). -/
def shiftIn (b : Byte) (v : Bool) : Byte := (b <<< 1) ||| (if v then 1#8 else 0#8)

/-- A bit of a received byte is taken; the eighth completes the byte (R178). An edge that is not a command event puts the
instant at which entries have closed behind the command event that follows (R183). -/
def State.takeBit (s : State) (pdi : Bool) (received : State → Byte → State) : State :=
  let b := shiftIn s.port.shift pdi
  if s.port.bits + 1 < 8 then s.setPort { s.port with bits := s.port.bits + 1, shift := b, closedNow := [] }
  else received s b

/-- The number of bits of the response snapshot (R181). -/
def Port.snapshotBits (p : Port) : Nat := 8 * (p.snapshot.getD []).length

/-- A rising edge of PCK (R178, R179, R181). -/
def State.clockPort (s : State) (pdi : Bool) : State :=
  match s.port.state with
  | .idle => s
  | .deselectWait => s
  | .command => s.takeBit pdi State.commandReceived
  | .arguments => s.takeBit pdi State.argumentReceived
  | .turnaround =>
    if s.port.bits + 1 < 8 then s.setPort { s.port with bits := s.port.bits + 1 }
    else s.setPort { s.port with state := .response, bits := 0 }
  | .response =>
    if s.port.shifted + 1 < s.port.snapshotBits then
      s.setPort { s.port with shifted := s.port.shifted + 1, bits := (s.port.bits + 1) % 8 }
    else s.setPort { s.port with state := .trailing, shifted := s.port.shifted + 1, bits := 0 }
  | .trailing => s

/-- What PDO drives; none while it is not driven. In RESPONSE it is the snapshot's next bit, most significant bit
first (R178, R181, Table 39). -/
def State.pdo (s : State) : Option Bool :=
  if s.resetHeld = true then none
  else
    match s.port.state with
    | .idle => none
    | .deselectWait => none
    | .response =>
      some (bit ((s.port.snapshot.getD []).getD (s.port.shifted / 8) 0#8) (7 - s.port.shifted % 8))
    | .command => some false
    | .arguments => some false
    | .turnaround => some false
    | .trailing => some false

/-! ### The end of a transaction -/

/-- The commit of a command whose response has been read in full (R96, R175, R190). -/
def State.commitPending (s : State) : State :=
  match s.port.commit with
  | none => s
  | some .pop => s.commitPop
  | some .takeEvents => s.setLatches s.latches.commit
  | some .readCounters => s.setCounters Counters.zero

/-- PORT_ABORT is raised; a report that is open is discarded with the transaction (R175, R182). -/
def State.abortPort (s : State) : State := (s.setLatches s.latches.discard).raise .portAbort

/-- PCS rises (R178, R182): the port discards, aborts or commits according to its state, and returns to IDLE with empty
transaction state (R177). -/
def State.endTransaction (s : State) : State :=
  let t :=
    match s.port.state with
    | .idle => s
    | .deselectWait => s
    | .command => if s.port.bits = 0 then s else s.abortPort
    | .arguments => s.abortPort
    | .turnaround => if s.port.commit = none then s else s.abortPort
    | .response => if s.port.commit = none then s else s.abortPort
    | .trailing => s.commitPending
  t.setPort Port.idle

/-! ### The rows of the table -/

/-- The states of the port in which a command's last byte can be received; IDLE stands for a transaction whose falling
of PCS is not commanded (R178, R179, log entry 11). -/
def PortState.takesCommand : PortState → Bool
  | .idle => true
  | .command => true
  | .arguments => true
  | .deselectWait => false
  | .turnaround => false
  | .response => false
  | .trailing => false

/-- A row of a port command: the command event of the command with its argument bytes (R180). Once a transaction has
had its command, further bytes do not begin a second one (R179). -/
def State.commandRow (s : State) (c : PortCommand) (args : List Byte) (run : State → Reply) : Answer :=
  s.whenRunning fun s => if s.port.state.takesCommand = true then (s.handCommand run).finish c args else s

/-- TRANSACTION_START: PCS falls (R178). -/
def execTransactionStart (s : State) : Answer :=
  s.whenRunning fun s => if s.port.state = .idle then s.setPort { Port.idle with state := .command } else s

/-- PCK_RISING_EDGE (R178). -/
def execPckRisingEdge (pdi : Bool) (s : State) : Answer :=
  s.whenRunning fun s => s.clockPort pdi

/-- TRANSACTION_END: PCS rises (R182). -/
def execTransactionEnd (s : State) : Answer :=
  s.whenRunning fun s => s.endTransaction

/-- BAD_COMMAND: an unknown command byte is received (R179); a byte that names a command is not this row's (log entry
21). -/
def execBadCommand (byte : Byte) (s : State) : Answer :=
  s.whenRunning fun s =>
    if s.port.state.takesCommand = true ∧ commandOf byte = none then s.answerUnknown byte else s

/-- CONFIGURE (R186, R187). -/
def execConfigure (args : List Byte) (s : State) : Answer := s.commandRow .configure args (configureCommand args)

/-- RESET (R191, R192). -/
def execReset (s : State) : Answer := s.commandRow .reset [] resetCommand

/-- READ STATUS (R188). -/
def execReadStatus (s : State) : Answer := s.commandRow .readStatus [] readStatusCommand

/-- READ COUNTERS (R189). -/
def execReadCounters (s : State) : Answer := s.commandRow .readCounters [] readCountersCommand

/-- JOIN (R38). -/
def execJoin (s : State) : Answer := s.commandRow .join [] joinCommand

/-- LEAVE (R54). -/
def execLeave (s : State) : Answer := s.commandRow .leave [] leaveCommand

/-- LOAD (R81). -/
def execLoad (index : Byte) (record : List Byte) (s : State) : Answer :=
  s.commandRow .load (index :: record) (loadCommand index record)

/-- ARM (R84). -/
def execArm (index : Byte) (s : State) : Answer := s.commandRow .arm [index] (armCommand index)

/-- ARRIVE (R105). -/
def execArrive (index : Byte) (s : State) : Answer := s.commandRow .arrive [index] (arriveCommand index)

/-- CANCEL (R88). -/
def execCancel (index : Byte) (s : State) : Answer := s.commandRow .cancel [index] (cancelCommand index)

/-- POP (R95). -/
def execPop (s : State) : Answer := s.commandRow .pop [] popCommand

/-- READ ENTRY (R97). -/
def execReadEntry (index : Byte) (s : State) : Answer := s.commandRow .readEntry [index] (readEntryCommand index)

/-- STAGE (R157). -/
def execStage (channel index : Byte) (set : List Byte) (s : State) : Answer :=
  s.commandRow .stage (channel :: index :: set) (stageCommand channel index set)

/-- UNSTAGE (R158). -/
def execUnstage (channel index : Byte) (s : State) : Answer :=
  s.commandRow .unstage [channel, index] (unstageCommand channel index)

/-- READ CHANNEL (R165). -/
def execReadChannel (channel : Byte) (s : State) : Answer :=
  s.commandRow .readChannel [channel] (readChannelCommand channel)

/-- TAKE EVENTS (R174). -/
def execTakeEvents (s : State) : Answer := s.commandRow .takeEvents [] takeEventsCommand

end Sys2Proof.Machine
end

