-- ==== Sys2Proof/Machine/Pulse.lean ====
section
/-!
DEFINITION. The commands of the pulse channels, the markers and the trigger inputs: PHASE_WAIT_END, HIGH_TO_LOW_CHANGE,
PERIOD_END (R149 to R152), MARKER_PULSE_END (R170), TRIGGER_EDGE and TRIGGER_SAMPLE (R167 to R169).
-/

namespace Sys2Proof.Machine

/-- PHASE_WAIT_END (R149). -/
def execPhaseWaitEnd (channel : ChannelIndex) (s : State) : Answer :=
  s.whenRunning fun s => s.endPhaseWait channel

/-- HIGH_TO_LOW_CHANGE (R150). -/
def execHighToLowChange (channel : ChannelIndex) (s : State) : Answer :=
  s.whenRunning fun s => s.fall channel

/-- PERIOD_END (R150 to R152). -/
def execPeriodEnd (channel : ChannelIndex) (s : State) : Answer :=
  s.whenRunning fun s => s.endPeriod channel

/-- MARKER_PULSE_END: the marker falls low (R170); a marker that is low has no pulse to end. -/
def execMarkerPulseEnd (marker : MarkerIndex) (s : State) : Answer :=
  s.whenRunning fun s => s.setMarker marker Marker.low

/-- TRIGGER_EDGE: a sample that differs from the sampled level makes an edge (R167 to R169). -/
def execTriggerEdge (input : InputIndex) (high : Bool) (s : State) : Answer :=
  s.whenRunning fun s => s.sampleTrigger input high

/-- TRIGGER_SAMPLE: the inputs are sampled, and their edges taken in the order given (R167, R168). -/
def execTriggerSample (samples : List (InputIndex × Bool)) (s : State) : Answer :=
  s.whenRunning fun s => samples.foldl (fun s p => s.sampleTrigger p.1 p.2) s

end Sys2Proof.Machine
end

