-- ==== Sys2Proof/Machine/Tick.lean ====
section
/-!
DEFINITION. The station's own time (log entry 1): which of its own events are due at the present instant, and what one
beat of the line rate does when none is (R1, R2, R9, R39, R149, R150, R153, R170).
-/

namespace Sys2Proof.Machine

/-- The length of the slot in progress: 512 + d beats (R2, R9). -/
def RoundTimer.slotLength (t : RoundTimer) : Nat := ((Config.slotBeats : Int) + t.correction.getD 0).toNat

/-- A positive correction holds the channels in the beats behind the uncorrected opening (R153). -/
def RoundTimer.holding (t : RoundTimer) : Bool := decide (Config.slotBeats ≤ t.beat)

/-- The events of the round timer that are due (R6, R9); of a boundary each reaction that is not taken yet (log entry
3). -/
def State.timerEvents (s : State) : List Instr :=
  (if s.timer.slotLength ≤ s.timer.beat ∨ s.timer.opening = true then [.slotOpens (Config.channelOrder s.choices)]
    else []) ++
    (match s.timer.boundary with
      | none => []
      | some b => b.due.map fun x => .roundBoundary [x]) ++
    (if s.timer.ownOpening = true then [.ownSlotOpens] else [])

/-- The events of the line port and the line controller that are due (R30, R32, R42). -/
def State.lineEvents (s : State) : List Instr :=
  (if s.frames.assembled.isSome = true ∧ s.timer.slot = s.timer.station ∧ s.timer.hasOwnSlot = true ∧
      s.timer.beat = Config.sendOffset then [.sendOffset] else []) ++
    (match s.frames.transmitting with
      | none => []
      | some t => if t.beats ≤ t.elapsed then [.ownFrameEnd (Config.lineHeard s.choices)] else []) ++
    (if s.line.state = .listen ∧ s.line.listen = some 0 then [.listenTimerExpiry] else [])

/-- The event of a channel that is due: a change that falls at this instant, outside a hold (R149, R150, R153). -/
def State.channelEvent (s : State) (k : ChannelIndex) : Option Instr :=
  if (s.channel k).owed = true ∧ s.timer.holding = false then
    match (s.channel k).nextChange with
    | none => none
    | some .phaseWaitEnd => some (.phaseWaitEnd k)
    | some .highToLow => some (.highToLowChange k)
    | some .periodEnd => some (.periodEnd k)
  else none

/-- The event of a marker that is due (R170). -/
def State.markerEvent (s : State) (k : MarkerIndex) : Option Instr :=
  if (s.marker k).high = true ∧ (s.marker k).remaining = 0 then some (.markerPulseEnd k) else none

/-- Every event of the station's own that is due at the present instant (log entry 1). -/
def State.dueEvents (s : State) : List Instr :=
  s.timerEvents ++ s.lineEvents ++ allChannels.filterMap s.channelEvent ++
    ([0, 1] : List MarkerIndex).filterMap s.markerEvent

/-- The due event that is taken: which of several is a free value (log entry 7). -/
def State.chosenEvent (s : State) : Option Instr :=
  match s.dueEvents with
  | [] => none
  | [e] => some e
  | e :: es => some (((e :: es)[Config.nextEvent s.choices % (e :: es).length]?).getD e)

/-- One beat passes for a channel: a change that falls at its end is owed, and an owed one is held over while a
correction holds the channel (R149, R150, R153). -/
def Channel.beat (holding : Bool) (c : Channel) : Channel :=
  if c.owed = true ∨ holding = true then c
  else
    match c.nextChange with
    | none => c.advance
    | some _ => { c with owed := true }

/-- One beat passes for a marker (R170). -/
def Marker.beat (m : Marker) : Marker :=
  if m.high = true then { m with remaining := m.remaining - 1 } else m

/-- One beat of the line rate passes: line time, the listen timer, the frame in transmission, the channels and the
markers count it (R1, R39, R148, R170). -/
def State.passBeat (s : State) : State :=
  let holding := s.timer.holding
  let s := allChannels.foldl (fun s k => s.setChannel k ((s.channel k).beat holding)) s
  let s := ([0, 1] : List MarkerIndex).foldl (fun s k => s.setMarker k (s.marker k).beat) s
  let s := s.setLine { s.line with listen := s.line.listen.map (· - 1) }
  let s := s.setFrames
    { s.frames with transmitting := s.frames.transmitting.map fun t => { t with elapsed := t.elapsed + 1 } }
  s.setTimer { s.timer.later with beat := s.timer.beat + 1 }

end Sys2Proof.Machine
end

