-- ==== Sys2Proof/Machine/Dispatch.lean ====
section
/-!
DEFINITION. The dispatch: one arm for each command.
-/

namespace Sys2Proof.Machine

def exec (i : Instr) (s : State) : Host.Outcome State Fault Refusal :=
  match i with
  | .resetnLow => Sys2Proof.Machine.execResetnLow s
  | .resetnRelease straps pcsLow => Sys2Proof.Machine.execResetnRelease straps pcsLow s
  | .slotOpens order => Sys2Proof.Machine.execSlotOpens order s
  | .ownSlotOpens => Sys2Proof.Machine.execOwnSlotOpens s
  | .sendOffset => Sys2Proof.Machine.execSendOffset s
  | .ownFrameEnd heard => Sys2Proof.Machine.execOwnFrameEnd heard s
  | .frameEnd rx noticeFirst => Sys2Proof.Machine.execFrameEnd rx noticeFirst s
  | .lineActivityEnd rx => Sys2Proof.Machine.execLineActivityEnd rx s
  | .listenTimerExpiry => Sys2Proof.Machine.execListenTimerExpiry s
  | .roundBoundary order => Sys2Proof.Machine.execRoundBoundary order s
  | .triggerEdge input high => Sys2Proof.Machine.execTriggerEdge input high s
  | .phaseWaitEnd channel => Sys2Proof.Machine.execPhaseWaitEnd channel s
  | .highToLowChange channel => Sys2Proof.Machine.execHighToLowChange channel s
  | .periodEnd channel => Sys2Proof.Machine.execPeriodEnd channel s
  | .markerPulseEnd marker => Sys2Proof.Machine.execMarkerPulseEnd marker s
  | .transactionStart => Sys2Proof.Machine.execTransactionStart s
  | .badCommand byte => Sys2Proof.Machine.execBadCommand byte s
  | .configure args => Sys2Proof.Machine.execConfigure args s
  | .reset => Sys2Proof.Machine.execReset s
  | .readStatus => Sys2Proof.Machine.execReadStatus s
  | .readCounters => Sys2Proof.Machine.execReadCounters s
  | .join => Sys2Proof.Machine.execJoin s
  | .leave => Sys2Proof.Machine.execLeave s
  | .load index record => Sys2Proof.Machine.execLoad index record s
  | .arm index => Sys2Proof.Machine.execArm index s
  | .arrive index => Sys2Proof.Machine.execArrive index s
  | .cancel index => Sys2Proof.Machine.execCancel index s
  | .pop => Sys2Proof.Machine.execPop s
  | .readEntry index => Sys2Proof.Machine.execReadEntry index s
  | .stage channel index set => Sys2Proof.Machine.execStage channel index set s
  | .unstage channel index => Sys2Proof.Machine.execUnstage channel index s
  | .readChannel channel => Sys2Proof.Machine.execReadChannel channel s
  | .takeEvents => Sys2Proof.Machine.execTakeEvents s
  | .transactionEnd => Sys2Proof.Machine.execTransactionEnd s
  | .pckRisingEdge pdi => Sys2Proof.Machine.execPckRisingEdge pdi s
  | .triggerSample samples => Sys2Proof.Machine.execTriggerSample samples s

end Sys2Proof.Machine
end

