-- ==== Sys2Proof/Machine/Step.lean ====
section
/-!
DEFINITION. One step: the command at the front of the queue is taken; on an empty queue the station's own time goes on
(log entry 1).
-/

namespace Sys2Proof.Machine

/-- A step on an empty queue: one of the station's own events that are due at this instant is taken, or, where none is
due, one beat passes. While RESETN is low nothing happens (R14; log entries 1 and 7). -/
def idle (s : State) : Answer :=
  if s.resetHeld = true then .next s
  else
    match s.chosenEvent with
    | none => .next s.passBeat
    | some e => exec e { s with choices := s.choices + 1 }

/-- One step. -/
def step (s : State) : Host.Outcome State Fault Refusal :=
  match s.pending with
  | [] => idle s
  | c :: rest => exec c { s with pending := rest }

/-- The state with the command that a word spells at the front of its queue; the table gives bits to no row, so no word
spells one (log entry 28). -/
def State.withFetchWord (s : State) (nbits w : Nat) : State :=
  match decodeTableWord nbits w with
  | none => s
  | some c => { s with pending := c :: s.pending }

end Sys2Proof.Machine
end

