-- ==== Sys2Proof/WellFormed.lean ====
section
/-!
DEFINITION. Well-formed commands: the checks that a sender's operands must pass to be operands of the row at all. No
check concerns values that the manual answers with a result code: those are ordinary operands.
-/

namespace Sys2Proof

/-- The members of a list are distinct. -/
def distinctMembers {α : Type} [DecidableEq α] : List α → Bool
  | [] => true
  | a :: l => !l.contains a && distinctMembers l

/-- Table 47: the values that name a command. -/
def commandByteValues : List Byte :=
  [0x10#8, 0x11#8, 0x12#8, 0x13#8, 0x20#8, 0x21#8, 0x30#8, 0x31#8, 0x32#8, 0x33#8, 0x34#8, 0x35#8, 0x40#8, 0x41#8,
   0x42#8, 0x50#8]

/-- The command's operands have the form its row asks for: an order of channels is whole, reactions are named once
each (log entry 3), a record has its number of bytes (Tables 47, 49 to 51), one sampling instant samples each of the
four inputs once, and the byte of BAD_COMMAND names no command. -/
def Instr.wellFormed : Instr → Bool
  | .resetnLow => true
  | .resetnRelease _ _ => true
  | .slotOpens order => distinctMembers order && order.length == 8
  | .ownSlotOpens => true
  | .sendOffset => true
  | .ownFrameEnd _ => true
  | .frameEnd _ _ => true
  | .lineActivityEnd _ => true
  | .listenTimerExpiry => true
  | .roundBoundary order => distinctMembers order
  | .triggerEdge _ _ => true
  | .phaseWaitEnd _ => true
  | .highToLowChange _ => true
  | .periodEnd _ => true
  | .markerPulseEnd _ => true
  | .transactionStart => true
  | .badCommand byte => !commandByteValues.contains byte
  | .configure args => args.length == 4
  | .reset => true
  | .readStatus => true
  | .readCounters => true
  | .join => true
  | .leave => true
  | .load _ record => record.length == 12
  | .arm _ => true
  | .arrive _ => true
  | .cancel _ => true
  | .pop => true
  | .readEntry _ => true
  | .stage _ _ set => set.length == 11
  | .unstage _ _ => true
  | .readChannel _ => true
  | .takeEvents => true
  | .transactionEnd => true
  | .pckRisingEdge _ => true
  | .triggerSample samples => distinctMembers (samples.map Prod.fst) && samples.length == 4

end Sys2Proof
end

