-- ==== Sys2Proof/Safety.lean ====
section
/-!
DEFINITION. What claims speak of: a safe step, the invariants of the station that the manual states as laws, and the
port's answer to a command.
-/

namespace Sys2Proof.Machine

/-! ### Safe steps -/

/-- A step is safe when it answers a next state: neither a fault nor a refusal stops the station. -/
def SafeStep (s : State) : Prop := ∃ t : State, step s = .next t

/-- Every step that answers a next state keeps a property. -/
def KeptByStep (inv : State → Prop) : Prop := ∀ s t : State, inv s → step s = .next t → inv t

/-! ### The rendezvous table -/

/-- The completion queue holds the index of every DONE entry exactly once, and no other index (R92). -/
abbrev State.CompletionsMatch (s : State) : Prop :=
  s.completions.Nodup ∧ ∀ i : EntryIndex, i ∈ s.completions ↔ (s.entry i).state = .done

/-- No two entries outside FREE hold both the same rendezvous number and the same epoch (R82). -/
abbrev State.NamesUnique (s : State) : Prop :=
  ∀ i j : EntryIndex, i ≠ j → (s.entry i).state ≠ .free → (s.entry j).state ≠ .free →
    (s.entry i).record.number = (s.entry j).record.number → (s.entry i).record.epoch ≠ (s.entry j).record.epoch

/-- No entry is ARMED or COMPLETE while the line controller is OFFLINE, LISTEN or COLDSTART (R100). -/
abbrev State.PendingOnlySynced (s : State) : Prop :=
  s.line.state.synced = false → ∀ i : EntryIndex, (s.entry i).pending = false

/-- The arrival condition of an entry outside FREE is NONE exactly when the station is not among its participants
(R77). -/
abbrev State.ConditionsFit (s : State) : Prop :=
  ∀ i : EntryIndex, (s.entry i).state ≠ .free →
    ((s.entry i).record.condition = .none ↔ s.participates (s.entry i) = false)

/-- The announce queue has no duplicates, and an index is a member exactly when its entry is pending, the station is a
participant and the local arrival has occurred (R28); the assembled frame names members once each. -/
abbrev State.AnnounceMatches (s : State) : Prop :=
  s.frames.announce.all.Nodup ∧
    (∀ i : EntryIndex, i ∈ s.frames.announce.all ↔
      ((s.entry i).pending = true ∧ s.participates (s.entry i) = true ∧ (s.entry i).arrived = true)) ∧
    (∀ f, s.frames.assembled = some f → f.named.Nodup)

/-! ### The staged queues -/

/-- A staged queue holds at most 4 pairs with distinct tags; each set is legal, and each tag names an entry that is
HELD, ARMED or COMPLETE and whose channel mask includes the channel (R146, R156). -/
abbrev State.QueueFits (s : State) (k : ChannelIndex) : Prop :=
  (s.channel k).staged.length ≤ 4 ∧ ((s.channel k).staged.map StagedPair.tag).Nodup ∧
    ∀ p ∈ (s.channel k).staged, legalSet p.set = true ∧ (s.entry p.tag).state ≠ .free ∧ (s.entry p.tag).state ≠ .done ∧
      hasChannel (s.entry p.tag).record.channels k = true

/-- Every staged queue fits, and for every ARMED or COMPLETE entry every channel in its mask holds a staged set tagged
with that entry (R85, R156). -/
abbrev State.StagedMatch (s : State) : Prop :=
  (∀ k : ChannelIndex, s.QueueFits k) ∧ ∀ i : EntryIndex, (s.entry i).pending = true → s.fullyStaged i = true

/-! ### The pulse channels and the markers -/

/-- The runtime state of a channel fits its active set (R146, R148): IDLE for OFF and LEVEL, WAITING, RUNNING or
FINISHED for PERIODIC and BURST, with the counts of R148 in their ranges. -/
abbrev Channel.RunFits (c : Channel) : Prop :=
  legalSet c.active = true ∧
    (c.run = .idle ↔ (c.active.mode = .off ∨ c.active.mode = .level)) ∧
    (c.run = .finished → c.active.mode = .burst) ∧
    (if c.run = .waiting then 1 ≤ c.phaseRemaining ∧ c.phaseRemaining ≤ 65535 else c.phaseRemaining = 0) ∧
    (if c.run = .running then c.position < c.active.period.toNat else c.position = 0) ∧
    (if c.active.mode = .burst ∧ (c.run = .waiting ∨ c.run = .running) then
      1 ≤ c.periodsRemaining ∧ c.periodsRemaining ≤ 65535 else c.periodsRemaining = 0)

/-- A channel is forced exactly when its active set has guard and the station is not ACTIVE, and the pin drives what
Table 32 gives (R147, R163). -/
abbrev Channel.PinFits (c : Channel) (active : Bool) : Prop :=
  c.forced = (c.active.guard && !active) ∧ c.pin = c.pinLevel

/-- Every channel fits, staged sets are legal, and a low marker has no length left (R148, R163, R170). -/
abbrev State.OutputsFit (s : State) : Prop :=
  (∀ k : ChannelIndex, (s.channel k).RunFits ∧ (s.channel k).PinFits s.isActive ∧
    ∀ p ∈ (s.channel k).staged, legalSet p.set = true) ∧
    ∀ k : MarkerIndex, (s.marker k).remaining ≤ 512 ∧ ((s.marker k).high = false → (s.marker k).remaining = 0)

/-! ### Configuration, line time and peers -/

/-- The configuration record lies in its ranges, the round timer counts by it, an unlocked station is OFFLINE, and a
station that has joined has an own slot (R2, R9, R38, R185). -/
abbrev State.ConfigFits (s : State) : Prop :=
  2 ≤ s.settings.size ∧ s.settings.size ≤ 16 ∧ 2 ≤ s.settings.lossLimit ∧ s.settings.lossLimit ≤ 7 ∧
    s.settings.defaultLead ≠ 0#4 ∧ s.timer.size = s.settings.size ∧ s.timer.rate = s.settings.rate ∧
    s.timer.slot.val < s.settings.size ∧ (∀ d ∈ s.timer.correction, -16 ≤ d ∧ d ≤ 16) ∧
    (s.locked = false → s.line.state = .offline) ∧
    (s.line.state ≠ .offline → s.timer.station.val < s.settings.size)

/-- The peer table tracks exactly in INTEGRATING, ACTIVE and PASSIVE, and is clear otherwise; no silence count exceeds
7, and a PRESENT peer's lies below the loss limit and is not departed (R62, R63, R68, R74). -/
abbrev State.PeersFit (s : State) : Prop :=
  s.peers.tracking = s.line.state.synced ∧
    (s.line.state.synced = false → s.peers = PeerTable.cleared) ∧
    ∀ k : Station, (s.peerInUse k = false → s.peer k = PeerRecord.cleared) ∧ (s.peer k).silence ≤ 7 ∧
      ((s.peer k).present = true → (s.peer k).silence < s.settings.lossLimit ∧ (s.peer k).departed = false)

/-! ### Round boundaries -/

/-- A ROUND_BOUNDARY finds these: the round that opens, the records of the closing round, and the reactions that are
due. They are those of the boundary of this instant, or, where none is due, of the one that the command says has come
(R6, R23; log entries 2 to 4). -/
abbrev State.Meets (s : State) (opening : Round) (r : RoundRecords) (due : List BoundaryReaction) : Prop :=
  (s.timer.dueBoundary = none ∧ opening = s.timer.carried + 1#16 ∧
      r = { good := s.frames.good, foreign := s.frames.foreign, mark := s.frames.mark } ∧
      due = [.view, .peers, .line, .table]) ∨
    ∃ b ∈ s.timer.boundary, b.due ≠ [] ∧ opening = b.opening ∧ due = b.due ∧
      r = b.records.getD { good := s.frames.good, foreign := s.frames.foreign, mark := s.frames.mark }

/-- A PRESENT peer whose view of round c is known, and holds the station or not (R71). -/
abbrev State.ViewNames (s : State) (c : Round) (names : Bool) (k : Station) : Prop :=
  k.val < s.settings.size ∧ k ≠ s.timer.station ∧ (s.peer k).present = true ∧ (s.peer k).lastRound = some c ∧
    ∃ v ∈ (s.peer k).lastView, hasStation v s.timer.station = names

/-- The entry has closed at this very instant: fired or expired by the table's reaction to the round boundary, at beat 0
of slot 0, or MISSED at the start of the transmission that carried its arrival for the first time, at beat 32 of the own
slot, with no port event and no end of a frame between (R89, R183; log entry 33). The port's list of closed entries is
what the statements of ROUND_BOUNDARY and SEND_OFFSET put there. -/
abbrev State.ClosedAtInstant (s : State) (i : EntryIndex) : Prop :=
  i ∈ s.port.closedNow ∧
    ((s.timer.slot = 0 ∧ s.timer.beat = 0 ∧ ∃ b ∈ s.timer.boundary, .table ∉ b.due) ∨
      (s.timer.slot = s.timer.station ∧ s.timer.beat = 32 ∧ ∃ x ∈ s.frames.transmitting, x.elapsed = 0))

/-! ### Resets -/

/-- What both resets leave in every block but the round timer, the configuration, the trigger inputs and the port
(R36, R37, R73, R101, R102, R166, R171, R176). -/
abbrev State.ClearedByReset (t : State) : Prop :=
  (t.frames.announce.all = [] ∧ t.frames.assembled = none ∧ t.frames.transmitting = none ∧ t.frames.good = 0#16 ∧
    t.frames.foreign = 0#16 ∧ t.frames.mark = false ∧ t.frames.view = 0#16) ∧
  (t.counters.good = 0#16 ∧ t.counters.bad = 0#16 ∧ t.counters.foreign = 0#16 ∧ t.counters.sent = 0#16 ∧
    t.counters.readBack = 0#16 ∧ t.counters.conflicts = 0#16) ∧
  (t.line.state = .offline ∧ t.line.leavePending = false ∧ t.line.listen = none ∧ t.line.coldSent = 0 ∧
    t.line.excluded = 0 ∧ t.line.hold = 0 ∧ t.line.alone = false ∧ t.line.integration = none) ∧
  (t.peers.tracking = false ∧ t.peers.startRound = none ∧
    ∀ k : Station, (t.peer k).present = false ∧ (t.peer k).silence = 0 ∧ (t.peer k).lastRound = none ∧
      (t.peer k).lastView = none ∧ (t.peer k).departed = false) ∧
  ((∀ i : EntryIndex, t.entry i = Entry.blank) ∧ t.completions = []) ∧
  (∀ k : ChannelIndex, (t.channel k).active = ChannelSet.off ∧ (t.channel k).staged = [] ∧ (t.channel k).run = .idle ∧
    (t.channel k).phaseRemaining = 0 ∧ (t.channel k).position = 0 ∧ (t.channel k).periodsRemaining = 0 ∧
    (t.channel k).periodEnds = 0#16 ∧ (t.channel k).forced = false ∧ (t.channel k).pin = false) ∧
  (∀ k : MarkerIndex, (t.marker k).high = false ∧ (t.marker k).remaining = 0) ∧
  (t.latches.latched = 0#8 ∧ t.latches.joined = 0#16 ∧ t.latches.lost = 0#16 ∧ t.latches.report = none) ∧
  t.locked = false ∧ t.lde = false ∧ t.attn = false

/-- R77: the record is legal for the entry with this index, under this round size and station number. -/
abbrev LoadedRecord.Legal (size : Nat) (station : Station) (i : EntryIndex) (r : LoadedRecord) : Prop :=
  r.participants ≠ 0#16 ∧ (∀ k : Station, hasStation r.participants k = true → k.val < size) ∧
    (r.condition = .none ↔ hasStation r.participants station = false) ∧ (r.condition = .none → r.lead = 0#4) ∧
    r.chain ≠ some i

/-! ### Answers of the port -/

/-- The port after a command event: TURNAROUND, with this snapshot and this commit pending (R180). -/
def PortCommand.answer (c : PortCommand) (args snapshot : List Byte) (commit : Option Commit) : Port :=
  { state := .turnaround, bits := 0, shift := 0#8, command := some c.byte, args := args, needed := c.argBytes
    snapshot := some snapshot, shifted := 0, commit := commit }

/-- The station takes port commands: RESETN is high, and the port is in COMMAND or ARGUMENTS, the states in which a
command's last byte can be received (R177 to R179), or in IDLE, where the model takes the row whole although PCS has not
fallen (log entry 11, the model's choice). -/
abbrev State.Ready (s : State) : Prop := s.resetHeld = false ∧ s.port.state.takesCommand = true

/-- The refusal of a command: nothing changes but the port, which answers the code, with data bytes of 0 in the number
of the command's response (R180, Table 41). -/
def State.refused (s : State) (c : PortCommand) (args : List Byte) (code : ResultCode) : State :=
  { s with port := c.answer args (code.byte :: List.replicate c.dataBytes 0#8) none }

/-- The answer OK with data and with the command's commit, if it has one (R180). -/
def State.answered (s : State) (c : PortCommand) (args data : List Byte) : State :=
  { s with port := c.answer args (0x00#8 :: data) c.commit }

/-! ### Sequences of commands -/

/-- Commands taken one after another. -/
def runCommands : List Instr → State → Answer
  | [], s => .next s
  | i :: l, s =>
    match exec i s with
    | .next t => runCommands l t
    | .fault f => .fault f
    | .refused r => .refused r

/-- The rising edges of PCK that carry these bytes on PDI, each most significant bit first (R178). -/
def clockedBytes (bytes : List Byte) : List Instr := (bytes.flatMap byteBits).map Instr.pckRisingEdge

end Sys2Proof.Machine

namespace Sys2Proof

open Machine in
/-- The port command of a row, and the argument bytes that it is sent with (Tables 42 and 47). -/
def Instr.portRow : Instr → Option (PortCommand × List Byte)
  | .configure args => some (.configure, args)
  | .reset => some (.reset, [])
  | .readStatus => some (.readStatus, [])
  | .readCounters => some (.readCounters, [])
  | .join => some (.join, [])
  | .leave => some (.leave, [])
  | .load index record => some (.load, index :: record)
  | .arm index => some (.arm, [index])
  | .arrive index => some (.arrive, [index])
  | .cancel index => some (.cancel, [index])
  | .pop => some (.pop, [])
  | .readEntry index => some (.readEntry, [index])
  | .stage channel index set => some (.stage, channel :: index :: set)
  | .unstage channel index => some (.unstage, [channel, index])
  | .readChannel channel => some (.readChannel, [channel])
  | .takeEvents => some (.takeEvents, [])
  | .resetnLow => none
  | .resetnRelease _ _ => none
  | .slotOpens _ => none
  | .ownSlotOpens => none
  | .sendOffset => none
  | .ownFrameEnd _ => none
  | .frameEnd _ _ => none
  | .lineActivityEnd _ => none
  | .listenTimerExpiry => none
  | .roundBoundary _ => none
  | .triggerEdge _ _ => none
  | .phaseWaitEnd _ => none
  | .highToLowChange _ => none
  | .periodEnd _ => none
  | .markerPulseEnd _ => none
  | .transactionStart => none
  | .badCommand _ => none
  | .transactionEnd => none
  | .pckRisingEdge _ => none
  | .triggerSample _ => none

end Sys2Proof
end

