-- ==== Sys2Proof/Certificates/Slice0/Obligations.lean ====
section
/-!
DEFINITION. The statements for the provers. Each docstring names the rules of the manual that a statement formalises,
and the log entry where it speaks of a choice of the model.
-/

open Sys2Proof Sys2Proof.Machine

/-! ### The machine as a whole -/

/-- A step takes the command at the front of the queue (the row's cut). -/
def Obligations.StepTakesFrontCommand : Prop :=
  ∀ (c : Instr) (rest : List Instr) (s : State), s.pending = c :: rest → step s = exec c { s with pending := rest }

/-- With no command waiting, a running station takes one of its own due events, or lets one beat pass when none is due
(R1, R6; the model's choice, log entries 1 and 7). Due are: SLOT_OPENS at the end of the slot, 512 beats and the pending
correction behind its opening, or where another command has opened the slot at this instant; each reaction to the round
boundary that is not taken yet; OWN_SLOT_OPENS that is not taken yet; SEND_OFFSET at beat 32 of the own slot with a frame
assembled; OWN_FRAME_END behind the last beat of the frame, 80 + 40k for k arrival entries; LISTEN_TIMER_EXPIRY at 0 in
LISTEN; the change that a channel owes, outside the hold of a positive correction; and MARKER_PULSE_END with no length
left; nothing else is (R2, R6, R7, R9, R30, R32, R39, R42, R149, R150, R153, R170; log entries 3, 4 and 16). -/
def Obligations.IdleStepTakesDueEventOrBeat : Prop :=
  (∀ s : State, s.pending = [] → s.resetHeld = false →
    (s.dueEvents = [] → step s = .next s.passBeat) ∧
    (s.dueEvents ≠ [] → ∃ e ∈ s.dueEvents, step s = exec e { s with choices := s.choices + 1 })) ∧
  ∀ s : State,
    ((∃ order, .slotOpens order ∈ s.dueEvents) ↔
      512 + s.timer.correction.getD 0 ≤ (s.timer.beat : Int) ∨ s.timer.opening = true) ∧
    (∀ order, .roundBoundary order ∈ s.dueEvents ↔ ∃ b x, s.timer.boundary = some b ∧ x ∈ b.due ∧ order = [x]) ∧
    (.ownSlotOpens ∈ s.dueEvents ↔ s.timer.ownOpening = true) ∧
    (.sendOffset ∈ s.dueEvents ↔ s.frames.assembled ≠ none ∧ s.timer.slot = s.timer.station ∧
      s.timer.station.val < s.timer.size ∧ s.timer.beat = 32) ∧
    ((∃ heard, .ownFrameEnd heard ∈ s.dueEvents) ↔
      ∃ x, s.frames.transmitting = some x ∧ (lineBeats x.bytes).length ≤ x.elapsed) ∧
    (∀ f : Frame, (lineBeats (encodeFrame f)).length = 80 + 40 * f.arrivals.length) ∧
    (.listenTimerExpiry ∈ s.dueEvents ↔ s.line.state = .listen ∧ s.line.listen = some 0) ∧
    (∀ (k : ChannelIndex) (c : Channel), c = s.channel k →
      (.phaseWaitEnd k ∈ s.dueEvents ↔
        c.owed = true ∧ s.timer.beat < 512 ∧ c.run = .waiting ∧ c.phaseRemaining ≤ 1) ∧
      (.highToLowChange k ∈ s.dueEvents ↔ c.owed = true ∧ s.timer.beat < 512 ∧ c.run = .running ∧
        c.position + 1 < c.active.period.toNat ∧ c.position + 1 = c.active.high.toNat) ∧
      (.periodEnd k ∈ s.dueEvents ↔
        c.owed = true ∧ s.timer.beat < 512 ∧ c.run = .running ∧ c.active.period.toNat ≤ c.position + 1)) ∧
    (∀ k : MarkerIndex, .markerPulseEnd k ∈ s.dueEvents ↔ (s.marker k).high = true ∧ (s.marker k).remaining = 0) ∧
    ∀ e ∈ s.dueEvents, e = .ownSlotOpens ∨ e = .sendOffset ∨ e = .listenTimerExpiry ∨
      (∃ order, e = .slotOpens order) ∨ (∃ x, e = .roundBoundary [x]) ∨ (∃ heard, e = .ownFrameEnd heard) ∨
      (∃ k, e = .phaseWaitEnd k ∨ e = .highToLowChange k ∨ e = .periodEnd k) ∨ ∃ k, e = .markerPulseEnd k

/-- Every command answers a next state in every state, and leaves the queue of commands and the counter of free choices,
which are the model's own, alone (log entries 7 and 24). This does not say that the command has its effect: with RESETN
low (log entry 10), or for an event that cannot occur (log entry 25), the next state is the state itself. -/
def Obligations.EveryCommandAnswersNext : Prop :=
  ∀ (i : Instr) (s : State), ∃ t : State, exec i s = .next t ∧ t.pending = s.pending ∧ t.choices = s.choices

/-- While RESETN is low no command but the two of RESETN changes anything (R14, R169, R177; log entry 10). -/
def Obligations.HeldStationIgnoresCommands : Prop :=
  ∀ (i : Instr) (s : State), s.resetHeld = true → i ≠ .resetnLow → (∀ straps pcsLow, i ≠ .resetnRelease straps pcsLow) →
    exec i s = .next s

/-- One beat of an idle station (the model's choice, log entry 1): line time and the listen timer count it (R2, R39),
the instant of a boundary is over (log entry 4), a high marker has one beat less (R170), and a channel outside a hold
advances by one, or, one beat before a change, keeps its place and owes the change (R149, R150; log entry 16), and keeps
its place through a hold (R153). Its pin drives what Table 32 gives (R147, R163). -/
def Obligations.IdleBeatCounts : Prop :=
  ∀ s : State, s.pending = [] → s.resetHeld = false → s.dueEvents = [] → ∃ t : State, step s = .next t ∧
    t = { s with
          timer := { s.timer with beat := s.timer.beat + 1, boundary := none }
          line := { s.line with listen := s.line.listen.map (· - 1) }
          frames :=
            { s.frames with transmitting := s.frames.transmitting.map fun x => { x with elapsed := x.elapsed + 1 } }
          channels := t.channels, markers := t.markers } ∧
    (∀ k : MarkerIndex, t.marker k =
      if (s.marker k).high = true then { high := true, remaining := (s.marker k).remaining - 1 } else s.marker k) ∧
    ∀ (k : ChannelIndex) (c : Channel), c = s.channel k →
      (t.channel k).PinFits s.isActive ∧
      t.channel k =
        { c with
          owed := (t.channel k).owed, phaseRemaining := (t.channel k).phaseRemaining
          position := (t.channel k).position, forced := (t.channel k).forced, pin := (t.channel k).pin } ∧
      ((t.channel k).owed, (t.channel k).phaseRemaining, (t.channel k).position) =
        (if c.owed = true ∨ 512 ≤ s.timer.beat then (c.owed, c.phaseRemaining, c.position)
        else if c.run = .waiting then
          if c.phaseRemaining ≤ 1 then (true, c.phaseRemaining, c.position)
          else (false, c.phaseRemaining - 1, c.position)
        else if c.run = .running then
          if c.active.period.toNat ≤ c.position + 1 ∨ c.position + 1 = c.active.high.toNat then
            (true, c.phaseRemaining, c.position)
          else (false, c.phaseRemaining, c.position + 1)
        else (false, c.phaseRemaining, c.position))

/-! ### Resets -/

/-- RESETN goes low: every block stands at its reset value, and nothing is driven (R14, R36, R37, R60, R73, R101, R166,
R169, R171, R176, R177, R184, R185). -/
def Obligations.ResetnLowClearsStation : Prop :=
  ∀ s : State, ∃ t : State, exec .resetnLow s = .next t ∧ t.resetHeld = true ∧ t.ClearedByReset ∧
    t.settings = { size := 4, rate := .mbit5, lossLimit := 3, defaultLead := 3#4, mask := 0xFF#8 } ∧
    (∀ k : InputIndex, (t.trigger k).level = none ∧ (t.trigger k).lastEdge = none) ∧
    t.port.snapshot = none ∧ t.port.command = none ∧ t.port.args = [] ∧ t.port.commit = none ∧ t.pdo = none

/-- RESETN is released: the straps are sampled, the round timer starts at round 0, slot 0, beat 0 with the defaults, and
the port waits for PCS to rise if it is low (R5, R14, R177, R185). On a station whose RESETN was not low before, the
command stands for the whole low pulse and clears every block as well: that is the model's choice (log entry 9). -/
def Obligations.ResetnReleaseStartsTimer : Prop :=
  ∀ (straps : BitVec 4) (pcsLow : Bool) (s : State), ∃ t : State,
    exec (.resetnRelease straps pcsLow) s = .next t ∧ t.resetHeld = false ∧ t.ClearedByReset ∧
    t.timer.round = 0#16 ∧ t.timer.slot = 0 ∧ t.timer.beat = 0 ∧ t.timer.correction = none ∧ t.timer.rate = .mbit5 ∧
    t.timer.size = 4 ∧ t.timer.station = straps.toFin ∧
    t.settings = { size := 4, rate := .mbit5, lossLimit := 3, defaultLead := 3#4, mask := 0xFF#8 } ∧
    (∀ k : InputIndex, (t.trigger k).level = none ∧ (t.trigger k).lastEdge = none) ∧
    t.port = { Port.idle with state := if pcsLow = true then .deselectWait else .idle }

/-- RESET: every block takes its port-reset values; the station number, the configuration values and the sampled levels
are kept, the lock opens, and the transaction runs on with OK (R15, R60, R169, R191, R192). That the port in IDLE takes
the row is the model's choice (log entry 11). -/
def Obligations.PortResetKeepsConfiguration : Prop :=
  ∀ s : State, s.Ready → ∃ t : State, exec .reset s = .next t ∧ t.resetHeld = false ∧ t.ClearedByReset ∧
    t.timer.round = 0#16 ∧ t.timer.slot = 0 ∧ t.timer.beat = 0 ∧ t.timer.correction = none ∧
    t.timer.rate = s.settings.rate ∧ t.timer.size = s.settings.size ∧ t.timer.station = s.timer.station ∧
    t.settings = s.settings ∧
    (∀ k : InputIndex, (t.trigger k).level = (s.trigger k).level ∧ (t.trigger k).lastEdge = none) ∧
    t.port = PortCommand.reset.answer [] [0x00#8] none

/-- The machine right after reset meets every invariant stated below, and stands at the reset values (R14, R36, R37,
R73, R101, R166, R171, R176, R185); the station number 0 and the port's IDLE are the model's choice (log entry 8). -/
def Obligations.ResetMeetsInvariants : Prop :=
  State.reset.CompletionsMatch ∧ State.reset.NamesUnique ∧ State.reset.PendingOnlySynced ∧ State.reset.ConditionsFit ∧
    State.reset.AnnounceMatches ∧ State.reset.StagedMatch ∧ State.reset.OutputsFit ∧ State.reset.ConfigFits ∧
    State.reset.PeersFit ∧ State.reset.ClearedByReset ∧
    Entry.blank =
      { state := .free
        record :=
          { number := 0#6, epoch := 0#8, participants := 0#16, condition := .none, lead := 0#4, deadline := 0#12
            late := .skip, channels := 0#8, markers := 0#2, chain := none }
        armRound := none, arrived := false, ownAnnounce := none, records := Vector.replicate 16 none
        recordedLead := none, fireRound := none, late := false, outcome := none, reason := none, actualFire := none
        superseded := 0#8, chainTaken := false, channelCount := 0#8 } ∧
    PeerTable.cleared =
      { records :=
          Vector.replicate 16
            { present := false, silence := 0, lastRound := none, lastView := none, departed := false }
        tracking := false, startRound := none } ∧
    ChannelSet.off =
      { mode := .off, level := false, period := 0#24, high := 0#24, phase := 0#16, count := 0#16, invert := false
        guard := false, safe := false } ∧
    Port.idle =
      { state := .idle, bits := 0, shift := 0#8, command := none, args := [], needed := 0, snapshot := none
        shifted := 0, commit := none, closedNow := [] }

/-! ### Line time -/

/-- SLOT_OPENS without a negative correction: beat 0 of the next slot (R2, R6), with the correction cleared (R9); behind
slot N − 1 the boundary that closes the round in progress falls at this instant, with every reaction due, and the number
of the round in progress is left to it (R3, R6; log entry 4). Nothing else changes. Where a ROUND_BOUNDARY or an
OWN_SLOT_OPENS has opened the slot at this instant already, SLOT_OPENS is that opening and moves nothing (R6, log
entry 4). -/
def Obligations.SlotOpensAdvancesLineTime : Prop :=
  (∀ t : RoundTimer, (t.boundary = none → t.carried = t.round ∧ t.dueBoundary = none) ∧
    ∀ b, t.boundary = some b →
      t.carried = b.opening ∧ t.dueBoundary = (if b.due = [] then none else some b)) ∧
  ∀ (order : List ChannelIndex) (s : State), s.resetHeld = false → 2 ≤ s.timer.size → s.timer.size ≤ 16 →
    (s.timer.opening = true →
      exec (.slotOpens order) s = .next { s with timer := { s.timer with opening := false } }) ∧
    (s.timer.opening = false → (∀ d ∈ s.timer.correction, 0 ≤ d) → ∃ slot : Station,
      (s.timer.slot.val + 1 < s.timer.size → slot.val = s.timer.slot.val + 1 ∧
        exec (.slotOpens order) s = .next
          { s with
            timer :=
              { s.timer with
                slot := slot, beat := 0, correction := none, boundary := s.timer.dueBoundary
                ownOpening := decide (slot = s.timer.station) && decide (s.timer.station.val < s.timer.size) } }) ∧
      (s.timer.size ≤ s.timer.slot.val + 1 →
        exec (.slotOpens order) s = .next
          { s with
            timer :=
              { s.timer with
                round := s.timer.carried, slot := 0, beat := 0, correction := none
                boundary := some
                  { opening := s.timer.carried + 1#16, due := [.view, .peers, .line, .table], records := none }
                ownOpening := decide (s.timer.station = 0) && decide (s.timer.station.val < s.timer.size) } }))

/-- A negative correction of d beats at the opening of a slot, whichever of SLOT_OPENS, OWN_SLOT_OPENS and ROUND_BOUNDARY
brings the instant about: every channel skips |d| beats, and the command then is what it is without a correction, so that
line time stands at beat 0 of the slot with the correction cleared (R2, R6, R9, R10). A WAITING channel whose phase wait is
longer waits on; one whose wait ends among the skipped beats runs, and the beats behind it move its position; a RUNNING one
stands |d| beats further on, modulo its period, with one period end counted for each period that it passes; a burst whose
last period ends among them is FINISHED and counts no more; IDLE and FINISHED channels are not moved, and the pin drives the
level of the new place (R149 to R151, R154). A change that falls at this instant and is not taken yet comes first, one beat
more (log entry 16, the model's choice). The line state does not matter, LISTEN included (log entry 37, the model's
choice). Of the rendezvous table only local arrivals on CHANNEL conditions and their counts
change (R107, R152), in whatever order the channels are treated (log entry 5). -/
def Obligations.NegativeCorrectionSkipsChannels : Prop :=
  ∀ (c : Instr) (s : State) (d : Int), s.resetHeld = false → s.timer.correction = some d → d < 0 →
    (((∃ order, c = .slotOpens order) ∧ s.timer.opening = false) ∨
      (c = .ownSlotOpens ∧ s.timer.station.val < s.timer.size ∧
        (s.timer.slot ≠ s.timer.station ∨ s.timer.beat ≠ 0)) ∨
      ((∃ order, c = .roundBoundary order) ∧ s.timer.dueBoundary = none)) →
    ∃ (t u : State) (l : List EntryIndex), exec c s = .next t ∧ exec c u = .next t ∧
      u = { s with
            timer := { s.timer with correction := none }, channels := u.channels, entries := u.entries
            frames :=
              { s.frames with
                announce := { s.frames.announce with uncarried := s.frames.announce.uncarried ++ l } } } ∧
      (∀ order, c = .slotOpens order → 2 ≤ s.timer.size → s.timer.size ≤ 16 → ∃ slot : Station,
        slot.val = (if s.timer.slot.val + 1 < s.timer.size then s.timer.slot.val + 1 else 0) ∧
        t = { u with
              timer :=
                { s.timer with
                  round := if slot.val = 0 then s.timer.carried else s.timer.round
                  slot := slot, beat := 0, correction := none
                  boundary :=
                    if slot.val = 0 then some
                      { opening := s.timer.carried + 1#16, due := [.view, .peers, .line, .table], records := none }
                    else s.timer.dueBoundary
                  ownOpening := decide (slot = s.timer.station) && decide (s.timer.station.val < s.timer.size) } }) ∧
      (c = .ownSlotOpens → t.timer.slot = s.timer.station ∧ t.timer.beat = 0 ∧ t.timer.correction = none ∧
        t.channels = u.channels ∧ t.entries = u.entries) ∧
      (∀ order, c = .roundBoundary order → t.timer.slot = 0 ∧ t.timer.beat = 0 ∧ t.timer.correction = none) ∧
      (∀ i, u.entry i =
        { s.entry i with arrived := (u.entry i).arrived, channelCount := (u.entry i).channelCount }) ∧
      (∀ i, (s.entry i).state ≠ .armed ∨ s.participates (s.entry i) = false ∨ (s.entry i).arrived = true ∨
        (∀ k n, (s.entry i).record.condition ≠ .channel k n) → u.entry i = s.entry i) ∧
      l.Nodup ∧ (∀ i, i ∈ l ↔ (s.entry i).arrived = false ∧ (u.entry i).arrived = true) ∧
      ∀ (k : ChannelIndex) (a b : Channel) (n : Nat), a = s.channel k → b = u.channel k →
        n = d.natAbs + (if a.owed = true then 1 else 0) →
        b.active = a.active ∧ b.staged = a.staged ∧ b.owed = false ∧
        (a.run = .waiting ∨ a.run = .running → b.PinFits s.isActive) ∧
        (a.run = .idle ∨ a.run = .finished →
          b.run = a.run ∧ b.phaseRemaining = a.phaseRemaining ∧ b.position = a.position ∧
          b.periodsRemaining = a.periodsRemaining ∧ b.periodEnds = a.periodEnds) ∧
        (a.run = .waiting → n < a.phaseRemaining →
          b.run = .waiting ∧ b.phaseRemaining = a.phaseRemaining - n ∧ b.position = a.position ∧
          b.periodsRemaining = a.periodsRemaining ∧ b.periodEnds = a.periodEnds) ∧
        (∀ total ends : Nat, 0 < a.active.period.toNat →
          ((a.run = .running ∧ a.position < a.active.period.toNat ∧ total = a.position + n) ∨
            (a.run = .waiting ∧ 1 ≤ a.phaseRemaining ∧ a.phaseRemaining ≤ n ∧ total = n - a.phaseRemaining)) →
          ends = total / a.active.period.toNat →
          b.phaseRemaining = (if a.run = .waiting then 0 else a.phaseRemaining) ∧
          (a.active.mode ≠ .burst ∨ ends < a.periodsRemaining →
            b.run = .running ∧ b.position = total % a.active.period.toNat ∧
            b.periodsRemaining = a.periodsRemaining - (if a.active.mode = .burst then ends else 0) ∧
            b.periodEnds.toNat = min 65535 (a.periodEnds.toNat + ends)) ∧
          (a.active.mode = .burst → 1 ≤ a.periodsRemaining → a.periodsRemaining ≤ ends →
            b.run = .finished ∧ b.position = 0 ∧ b.periodsRemaining = 0 ∧
            b.periodEnds.toNat = min 65535 (a.periodEnds.toNat + a.periodsRemaining)))

/-- Round numbers (R3): a ROUND_BOUNDARY that takes the rendezvous table's reaction increments the round number by
one, modulo 65536, once, whether or not a SLOT_OPENS has opened slot 0 at the instant before it and whatever other
reactions it takes; that the number moves with this reaction is the model's choice (log entry 4). k rounds after a is
(a + k) modulo 65536, and a precedes b exactly when (b − a) modulo 65536 lies in 1 to 32767; so no round precedes
itself, and of two rounds 32768 apart neither does. -/
def Obligations.RoundArithmetic : Prop :=
  (∀ (order : List BoundaryReaction) (s : State), s.resetHeld = false → s.timer.boundary = none →
    .table ∈ order → ∃ t : State, exec (.roundBoundary order) s = .next t ∧
      t.timer.round.toNat = (s.timer.round.toNat + 1) % 65536) ∧
  (∀ (order : List ChannelIndex) (s : State), s.resetHeld = false → s.timer.opening = false →
    s.timer.boundary = none → s.timer.size ≤ s.timer.slot.val + 1 →
    ∃ t : State, exec (.slotOpens order) s = .next t ∧ t.timer.round = s.timer.round ∧
      ∀ order', (.table ∈ order' → ∃ u : State, exec (.roundBoundary order') t = .next u ∧
          u.timer.round.toNat = (s.timer.round.toNat + 1) % 65536) ∧
        (.table ∉ order' → ∃ u : State, exec (.roundBoundary order') t = .next u ∧
          u.timer.round = s.timer.round)) ∧
  (∀ (a : Round) (k : Nat), (a + BitVec.ofNat 16 k).toNat = (a.toNat + k) % 65536) ∧
  (∀ a b : Round, precedes a b = true ↔
    1 ≤ (b.toNat + 65536 - a.toNat) % 65536 ∧ (b.toNat + 65536 - a.toNat) % 65536 ≤ 32767) ∧
  (∀ a b : Round, precedes a a = false ∧ (b - a = 32768#16 → precedes a b = false ∧ precedes b a = false))

/-! ### Slot frames -/

/-- OWN_SLOT_OPENS where the own slot's opening is due at this instant: in COLDSTART and ACTIVE the own frame is
assembled with the kind, sender, the round that the event carries, which for station 0 is the round that opens (R6),
the view and the first eight members of the announce queue (R29), each with its effective lead and its announce round
(R19, R78); in the other states nothing is assembled. An opening that is taken already is not taken again, and a
station number of N or above has no own slot (R2; log entry 25, the model's choice). Before the instant the command
brings it about: the slot opens, for station 0 with the boundary (R6; log entries 2 and 4, the model's choice). -/
def Obligations.OwnSlotOpensAssembles : Prop :=
  ∀ s : State, s.resetHeld = false →
    (s.timer.size ≤ s.timer.station.val → exec .ownSlotOpens s = .next s) ∧
    (s.timer.station.val < s.timer.size → s.timer.slot = s.timer.station → s.timer.beat = 0 →
      s.timer.ownOpening = false → exec .ownSlotOpens s = .next s) ∧
    (s.timer.station.val < s.timer.size → s.timer.slot = s.timer.station → s.timer.beat = 0 →
      s.timer.ownOpening = true → s.line.state ≠ .coldstart → s.line.state ≠ .active →
      exec .ownSlotOpens s = .next { s with timer := { s.timer with ownOpening := false } }) ∧
    (s.timer.station.val < s.timer.size → s.timer.slot = s.timer.station → s.timer.beat = 0 →
      s.timer.ownOpening = true → (s.line.state = .coldstart ∨ s.line.state = .active) → ∃ f : OwnFrame,
      exec .ownSlotOpens s = .next
        { s with
          timer := { s.timer with ownOpening := false }, frames := { s.frames with assembled := some f } } ∧
      f.frame.kind =
        (if s.line.leavePending = true then .leave else if s.line.state = .coldstart then .cold else .sync) ∧
      f.frame.sender = s.timer.station ∧
      (s.timer.boundary = none → f.frame.round = s.timer.round) ∧
      (∀ b, s.timer.boundary = some b → f.frame.round = b.opening) ∧
      f.frame.view = s.frames.view ∧
      f.named = (s.frames.announce.uncarried ++ s.frames.announce.carried).take 8 ∧
      f.frame.arrivals = f.named.map (fun i =>
        { number := (s.entry i).record.number, epoch := (s.entry i).record.epoch
          lead := if (s.entry i).record.lead = 0#4 then s.settings.defaultLead else (s.entry i).record.lead
          announce := (s.entry i).ownAnnounce.getD f.frame.round }) ∧
      ∀ i, i ∈ f.carriage ↔ i ∈ f.named ∧ (s.entry i).ownAnnounce = none) ∧
    (s.timer.station.val < s.timer.size → (s.timer.slot ≠ s.timer.station ∨ s.timer.beat ≠ 0) →
      (∀ d ∈ s.timer.correction, 0 ≤ d) → ∃ u : State,
        u = { s with
              timer :=
                { s.timer with
                  round := if s.timer.station = 0 then s.timer.carried else s.timer.round
                  slot := s.timer.station, beat := 0, correction := none
                  boundary :=
                    if s.timer.station = 0 then some
                      { opening := s.timer.carried + 1#16, due := [.view, .peers, .line, .table], records := none }
                    else s.timer.dueBoundary
                  opening := true, ownOpening := true } } ∧
        exec .ownSlotOpens s = exec .ownSlotOpens u)

/-- SEND_OFFSET: in COLDSTART and ACTIVE the assembled frame is transmitted: LDE is asserted, the transmitted mark is
set, every pending entry in carriage has the frame's round as its own announce round and is tested for completion, a
COLD frame is counted, and the named members of the announce queue stand at its tail in the frame's order, behind the
others in theirs, without the entries that the test closes MISSED (R7, R28, R30, R43, R115); good and foreign senders
and the view stay. The entries closed MISSED are those that have closed at this instant (R89, log entry 33). In the
other states the frame is dropped (R30). Setting slot and beat is the model's choice (log entry 2). While a frame is in
transmission LDE is asserted and LTX drives its beats one by one, and otherwise neither is driven (R7, R32, R193). -/
def Obligations.SendOffsetTransmitsOrDrops : Prop :=
  (∀ s : State, (s.frames.transmitting = none → s.lde = false ∧ s.ltx = none) ∧
    ∀ x, s.frames.transmitting = some x → s.lde = true ∧ s.ltx = (lineBeats x.bytes)[x.elapsed]?) ∧
  ∀ (s : State) (f : OwnFrame), s.resetHeld = false → s.timer.station.val < s.timer.size →
    s.frames.assembled = some f →
    ((s.line.state = .coldstart ∨ s.line.state = .active) → ∃ (t : State) (missed : EntryIndex → Bool),
      (∀ i, missed i = true ↔ (s.entry i).state ≠ .done ∧ (t.entry i).state = .done) ∧
      exec .sendOffset s = .next t ∧ t.lde = true ∧
      t = { s with
            timer :=
              { s.timer with
                slot := s.timer.station, beat := 32, boundary := s.timer.dueBoundary, opening := false
                ownOpening := false }
            frames :=
              { s.frames with
                assembled := none, mark := true
                transmitting := some { kind := f.frame.kind, bytes := encodeFrame f.frame, elapsed := 0 }
                announce :=
                  { uncarried :=
                      (s.frames.announce.uncarried.filter fun i => !f.named.contains i).filter fun i => !missed i
                    carried :=
                      ((s.frames.announce.carried.filter fun i => !f.named.contains i) ++
                        f.named.filter fun i =>
                          (s.frames.announce.uncarried ++ s.frames.announce.carried).contains i).filter
                        fun i => !missed i } }
            entries := t.entries, channels := t.channels
            completions := s.completions ++ allSixteen.filter missed
            port := { s.port with closedNow := allSixteen.filter missed }
            line :=
              { s.line with
                coldSent :=
                  if f.frame.kind = .cold ∧ s.line.state = .coldstart then min (s.line.coldSent + 1) 4
                  else s.line.coldSent } } ∧
      (∀ i, i ∉ f.carriage ∨ (s.entry i).pending = false → t.entry i = s.entry i) ∧
      (∀ i ∈ f.carriage, (s.entry i).pending = true →
        (t.entry i).ownAnnounce = some f.frame.round ∧
        t.entry i =
          (State.testCompletion
            { s with entries := s.entries.set i { s.entry i with ownAnnounce := some f.frame.round } } i).entry i) ∧
      (∀ k, t.channel k =
        { s.channel k with staged := (s.channel k).staged.filter fun p => !missed p.tag }) ∧
      (f.carriage = [] → t.entries = s.entries ∧ t.channels = s.channels ∧ t.completions = s.completions)) ∧
    (s.line.state ≠ .coldstart → s.line.state ≠ .active →
      exec .sendOffset s = .next
        { s with
          timer :=
            { s.timer with
              slot := s.timer.station, beat := 32, boundary := s.timer.dueBoundary, opening := false
              ownOpening := false }
          frames := { s.frames with assembled := none } })

/-- OWN_FRAME_END: the frame is counted, saturating, and a failed read-back besides; a LEAVE frame takes the station
to OFFLINE and closes every pending entry LEFT, a collided COLD frame in COLDSTART takes it to LISTEN, and any other
frame leaves everything else alone (R32, R33, R35, R44, R49, R55, R57, R99). That a LEAVE frame which ends in LISTEN,
COLDSTART, INTEGRATING or PASSIVE takes the station to OFFLINE as well is the model's reading (log entry 27). -/
def Obligations.OwnFrameEndCountsAndReports : Prop :=
  ∀ (heard : List LineBeat) (s : State) (x : Transmission), s.resetHeld = false → s.frames.transmitting = some x →
    ∃ t : State, exec (.ownFrameEnd heard) s = .next t ∧ t.frames.transmitting = none ∧ t.lde = false ∧
      t.counters =
        { s.counters with
          sent := BitVec.ofNat 16 (min 65535 (s.counters.sent.toNat + 1))
          readBack :=
            if heard = lineBeats x.bytes then s.counters.readBack
            else BitVec.ofNat 16 (min 65535 (s.counters.readBack.toNat + 1)) } ∧
      t.timer = s.timer ∧ t.settings = s.settings ∧ t.locked = s.locked ∧
      t.port = { s.port with closedNow := [] } ∧ t.triggers = s.triggers ∧ t.markers = s.markers ∧
      (x.kind = .leave → s.line.state ≠ .offline →
        t.line.state = .offline ∧ t.line.leavePending = false ∧ t.latches.latched.getLsbD 7 = true ∧
        t.peers = PeerTable.cleared ∧
        ∀ i, (s.entry i).pending = true →
          (t.entry i).state = .done ∧ (t.entry i).outcome = some .abandoned ∧ (t.entry i).reason = some .left) ∧
      (x.kind = .cold → s.line.state = .coldstart → heard ≠ lineBeats x.bytes →
        t.line.state = .listen ∧ t.line.coldSent = 0 ∧ t.latches.latched.getLsbD 7 = true ∧
        t.line.listen = some ((2 * s.settings.size + s.timer.station.val) * 512)) ∧
      (x.kind ≠ .leave → ¬(x.kind = .cold ∧ s.line.state = .coldstart ∧ heard ≠ lineBeats x.bytes) →
        t = { s with
              frames := { s.frames with transmitting := none }, counters := t.counters, port := t.port })

/-- FRAME_END of a bad or a foreign frame in COLDSTART, INTEGRATING, ACTIVE and PASSIVE: it is counted, the sender of
a foreign frame below N joins the foreign senders, and nothing else changes, unless it is a COLD frame that COLDSTART
adopts (R21, R22, R23, R26, R35, R46); activity that is not a frame changes nothing, and in OFFLINE nothing is heard
at all (R25). While the own frame is in transmission neither FRAME_END nor LINE_ACTIVITY_END has any effect: what LRX
carries then belongs to the read-back (R33). Nor has FRAME_END of activity that fell in part into the own transmission
and ends behind it, outside LISTEN. That the rest of such activity is no frame (log entry 13), and that a frame which
ends at the very instant of beat 32 is lost behind SEND_OFFSET (log entry 36), is the model's choice. -/
def Obligations.FrameEndCountsBadAndForeign : Prop :=
  ([LineState.offline, .listen, .coldstart, .integrating, .active, .passive].map LineState.synced =
    [false, false, false, true, true, true]) ∧
  ∀ (rx : Reception) (first : Bool) (s : State), s.resetHeld = false →
    (s.frames.transmitting ≠ none → ∀ i : Instr, (i = .frameEnd rx first ∨ i = .lineActivityEnd rx) →
      exec i s = .next s) ∧
    (s.line.state = .offline → exec (.frameEnd rx first) s = .next s) ∧
    (rx.meetsOwn = true → s.line.state ≠ .listen → exec (.frameEnd rx first) s = .next s) ∧
    (s.frames.transmitting = none → (s.line.state.synced = true ∨ s.line.state = .coldstart) →
      (hear s.settings.rate rx = .activity → exec (.frameEnd rx first) s = .next s) ∧
      (hear s.settings.rate rx = .bad →
        exec (.frameEnd rx first) s = .next
          { s with
            counters := { s.counters with bad := BitVec.ofNat 16 (min 65535 (s.counters.bad.toNat + 1)) } }) ∧
      (∀ f, hear s.settings.rate rx = .frame f →
        (rx.startBeat < 16 ∨ 48 < rx.startBeat ∨ f.sender ≠ rx.startSlot ∨ s.settings.size ≤ f.sender.val ∨
          f.round ≠ rx.startRound ∨ f.sender = s.timer.station) →
        ¬(s.line.state = .coldstart ∧ f.kind = .cold ∧ f.sender.val < s.timer.station.val ∧
          f.sender.val < s.settings.size) →
        exec (.frameEnd rx first) s = .next
          { s with
            counters := { s.counters with foreign := BitVec.ofNat 16 (min 65535 (s.counters.foreign.toNat + 1)) }
            frames :=
              { s.frames with
                foreign :=
                  if f.sender.val < s.settings.size then s.frames.foreign ||| stationBit f.sender
                  else s.frames.foreign } }))

/-- FRAME_END of a good frame, in COLDSTART, INTEGRATING, ACTIVE and PASSIVE: it sets the pending correction, counts,
and makes its sender a good sender (R9, R22, R23, R26). In the synced states it clears the alone flag of an ACTIVE
station (R49), the peer table takes its round and view, a LEAVE frame makes its sender ABSENT and departed and raises
PEER_LOST (R64, R65), and the rendezvous table takes its arrival entries and, for a LEAVE frame whose sender is not
departed yet, a loss notice, in either order (R24, R110, R120, R121). That no other event of the instant falls between
these two is the model's choice (log entry 39). In COLDSTART a good SYNC frame makes the station ACTIVE, tracking its
peers from the next round on (R45, R63), and a COLD frame of a higher-numbered station or a LEAVE frame has no further
effect (R46). -/
def Obligations.GoodFrameIsDelivered : Prop :=
  ∀ (rx : Reception) (first : Bool) (s : State) (f : Frame), s.resetHeld = false → s.frames.transmitting = none →
    hear s.settings.rate rx = .frame f → 16 ≤ rx.startBeat → rx.startBeat ≤ 48 → f.sender = rx.startSlot →
    f.sender.val < s.settings.size → f.round = rx.startRound → f.sender ≠ s.timer.station →
    ∃ t : State, exec (.frameEnd rx first) s = .next t ∧
    ((s.line.state.synced = true → s.peers.tracking = true → ∀ notice arrivals : State → State, ∀ v : State,
      notice = (fun x => if (s.peer f.sender).departed = false then x.lossNotice (stationBit f.sender) else x) →
      arrivals = (fun x => x.hearArrivals f.sender f.round f.arrivals) →
      v =
        (if f.kind = .leave then (if first = true then arrivals (notice s) else notice (arrivals s))
        else arrivals s) →
      t = { s with
            timer := { s.timer with correction := some ((rx.startBeat : Int) - 32) }
            line := { s.line with alone := if s.line.state = .active then false else s.line.alone }
            frames := { v.frames with good := s.frames.good ||| stationBit f.sender }
            counters :=
              { s.counters with
                good := BitVec.ofNat 16 (min 65535 (s.counters.good.toNat + 1)), conflicts := v.counters.conflicts }
            peers := t.peers, entries := v.entries, completions := v.completions, channels := v.channels
            latches := t.latches, port := { s.port with closedNow := [] } } ∧
      (t.peer f.sender).lastRound = some f.round ∧ (t.peer f.sender).lastView = some f.view ∧
      (t.peer f.sender).silence = (s.peer f.sender).silence ∧
      (∀ k, k ≠ f.sender → t.peer k = s.peer k) ∧
      (f.kind = .leave → (s.peer f.sender).departed = false →
        (t.peer f.sender).present = false ∧ (t.peer f.sender).departed = true ∧
        t.latches.latched.getLsbD 5 = true ∧ hasStation t.latches.lost f.sender = true) ∧
      (f.kind ≠ .leave ∨ (s.peer f.sender).departed = true →
        (t.peer f.sender).present = (s.peer f.sender).present ∧
        (t.peer f.sender).departed = (s.peer f.sender).departed ∧ t.latches = v.latches) ∧
      (f.kind ≠ .leave → f.arrivals = [] →
        t.entries = s.entries ∧ t.completions = s.completions ∧ t.channels = s.channels ∧ t.latches = s.latches ∧
        t.counters.conflicts = s.counters.conflicts ∧ t.frames.announce = s.frames.announce)) ∧
    (s.line.state = .coldstart →
      t = { s with
            timer := t.timer, line := t.line, frames := t.frames, peers := t.peers, channels := t.channels
            latches := t.latches
            counters :=
              { s.counters with good := BitVec.ofNat 16 (min 65535 (s.counters.good.toNat + 1)) } } ∧
      (¬(f.kind = .cold ∧ f.sender.val < s.timer.station.val) →
        t.timer = { s.timer with correction := some ((rx.startBeat : Int) - 32) } ∧
        t.frames = { s.frames with good := s.frames.good ||| stationBit f.sender }) ∧
      (f.kind = .sync → t.line.state = .active ∧ t.line.coldSent = 0 ∧ t.line.listen = none ∧
        t.latches.latched = s.latches.latched ||| 0x80#8 ∧ t.peers.records = s.peers.records ∧
        t.peers.tracking = true ∧
        (s.peers.tracking = false → t.peers.startRound = some (s.timer.round + 1#16))) ∧
      (f.kind = .leave ∨ (f.kind = .cold ∧ s.timer.station.val < f.sender.val) →
        t.line = s.line ∧ t.peers = s.peers ∧ t.channels = s.channels ∧ t.latches = s.latches)))

/-- A usable SYNC or COLD frame in LISTEN, under either row (log entry 23, the model's reading), is adopted, as is a
COLD frame of a lower-numbered station in COLDSTART: line time stands where the sender's stood at the frame's end, the
station is INTEGRATING over the next round, the peer table tracks from that round on, the records of the round are
empty, and the channels keep their places; in COLDSTART the frame is classed and counted first (log entry 19), and in
LISTEN it counts as foreign (R11, R13, R22, R25, R26, R27, R41, R46, R48, R59, R63, R155). -/
def Obligations.UsableFrameIsAdopted : Prop :=
  ∀ (rx : Reception) (first : Bool) (s : State) (f : Frame) (i : Instr), s.resetHeld = false →
    s.frames.transmitting = none →
    hear s.settings.rate rx = .frame f → f.sender.val < s.settings.size → f.sender ≠ s.timer.station →
    s.peers.tracking = false →
    ((s.line.state = .listen ∧ f.kind ≠ .leave ∧ (i = .frameEnd rx first ∨ i = .lineActivityEnd rx)) ∨
      (s.line.state = .coldstart ∧ f.kind = .cold ∧ f.sender.val < s.timer.station.val ∧ i = .frameEnd rx first)) →
    ∃ t : State, exec i s = .next t ∧
      t.timer =
        { s.timer with
          round := f.round, slot := f.sender, beat := 32 + (80 + 40 * f.arrivals.length), correction := none
          boundary := none, opening := false, ownOpening := false } ∧
      (∀ good : Bool,
        (good = true ↔ s.line.state = .coldstart ∧ 16 ≤ rx.startBeat ∧ rx.startBeat ≤ 48 ∧ f.sender = rx.startSlot ∧
          f.round = rx.startRound) →
        t.counters =
          { s.counters with
            good :=
              if good = true then BitVec.ofNat 16 (min 65535 (s.counters.good.toNat + 1)) else s.counters.good
            foreign :=
              if good = true then s.counters.foreign
              else BitVec.ofNat 16 (min 65535 (s.counters.foreign.toNat + 1)) }) ∧
      t.line.state = .integrating ∧ t.line.listen = none ∧ t.line.integration = some (f.round + 1#16) ∧
      t.line.coldSent = 0 ∧ t.peers.tracking = true ∧ t.peers.startRound = some (f.round + 1#16) ∧
      t.peers.records = s.peers.records ∧ t.latches.latched.getLsbD 7 = true ∧
      t.frames.good = 0#16 ∧ t.frames.foreign = 0#16 ∧ t.frames.mark = false ∧ t.frames.view = 0#16 ∧
      t.entries = s.entries ∧ t.completions = s.completions ∧ t.settings = s.settings ∧ t.triggers = s.triggers ∧
      t.markers = s.markers ∧ t.port = s.port ∧
      ∀ k, (t.channel k).run = (s.channel k).run ∧ (t.channel k).position = (s.channel k).position ∧
        (t.channel k).phaseRemaining = (s.channel k).phaseRemaining ∧
        (t.channel k).active = (s.channel k).active ∧ (t.channel k).staged = (s.channel k).staged

/-- Line activity in LISTEN that is not a usable SYNC or COLD frame, under either row: the listen timer starts afresh at
(2N + s) × 512 beats, a bad frame or a frame that is not bad is counted, and nothing else changes (R25, R35, R39, R40).
That the two rows are treated alike, and that LINE_ACTIVITY_END changes nothing in other states, is the model's reading
(log entry 23). -/
def Obligations.LineActivityRestartsListenTimer : Prop :=
  ∀ (rx : Reception) (first : Bool) (s : State) (i : Instr), s.resetHeld = false →
    (i = .frameEnd rx first ∨ i = .lineActivityEnd rx) →
    (s.line.state = .listen → s.frames.transmitting = none →
      (∀ f, hear s.settings.rate rx = .frame f →
        s.settings.size ≤ f.sender.val ∨ f.sender = s.timer.station ∨ f.kind = .leave) →
      exec i s = .next
        { s with
          line := { s.line with listen := some ((2 * s.settings.size + s.timer.station.val) * 512) }
          counters :=
            { s.counters with
              bad :=
                if hear s.settings.rate rx = .bad then BitVec.ofNat 16 (min 65535 (s.counters.bad.toNat + 1))
                else s.counters.bad
              foreign :=
                if hear s.settings.rate rx = .bad ∨ hear s.settings.rate rx = .activity then s.counters.foreign
                else BitVec.ofNat 16 (min 65535 (s.counters.foreign.toNat + 1)) } }) ∧
    (s.line.state ≠ .listen → exec (.lineActivityEnd rx) s = .next s)

/-- LISTEN_TIMER_EXPIRY: the station enters COLDSTART at round 0, own slot, beat 0, with the COLD frame of round 0
assembled (R12, R29, R42); outside LISTEN the timer does not run (R39), and that the command then changes nothing is the
model's choice (log entry 25). -/
def Obligations.ListenExpiryStartsCold : Prop :=
  ∀ s : State, s.resetHeld = false →
    (s.line.state ≠ .listen → exec .listenTimerExpiry s = .next s) ∧
    (s.line.state = .listen → s.line.leavePending = false → ∃ t : State, exec .listenTimerExpiry s = .next t ∧
      t.timer =
        { s.timer with
          round := 0#16, slot := s.timer.station, beat := 0, correction := none, boundary := none, opening := false
          ownOpening := false } ∧
      t.line.state = .coldstart ∧ t.line.listen = none ∧ t.line.coldSent = 0 ∧ t.latches.latched.getLsbD 7 = true ∧
      (∃ f, t.frames.assembled = some f ∧ f.frame.kind = .cold ∧ f.frame.sender = s.timer.station ∧
        f.frame.round = 0#16 ∧ f.frame.view = 0#16) ∧
      t.entries = s.entries ∧ t.completions = s.completions ∧ t.counters = s.counters ∧ t.settings = s.settings ∧
      t.peers = s.peers ∧ t.triggers = s.triggers ∧ t.markers = s.markers ∧ t.port = s.port)

/-- What the line carries is what is heard. A reception is heard as a frame exactly when it was sent at the receiver's
rate behind at least 8 silent beats, neither a jump nor an own transmission touched it, and it begins with the beats that
a station drives for that frame, of at most eight arrival entries with leads of 1 to 15. With a start mark and no such
frame behind it, cut off, with another CRC, of kind 00, of a count of 9 to 15, with a nonzero spare or a lead of 0, it is
a bad frame, and without a start mark, or after a jump, it is activity that is not a frame (R18 to R21, R27; that it is no
frame where any of it fell into an own transmission is R33 with log entry 13). The line code, the start mark AAABh, the
layouts of Tables 44 to 46 and the CRC are written out (R20, R193). -/
def Obligations.SentFrameIsHeard : Prop :=
  (∀ (rate : LineRate) (rx : Reception) (starts : Bool),
    (starts = true ↔ rx.rate = rate ∧ 8 ≤ rx.quietBefore ∧ rx.beforeJump = false ∧ rx.meetsOwn = false ∧
      startMark.map codeBit <+: rx.beats) →
    (starts = false → hear rate rx = .activity) ∧
    (∀ f : Frame, hear rate rx = .frame f ↔ starts = true ∧ f.arrivals.length ≤ 8 ∧
      (∀ a ∈ f.arrivals, a.lead ≠ 0#4) ∧ lineBeats (encodeFrame f) <+: rx.beats) ∧
    (starts = true → (∀ f : Frame, hear rate rx ≠ .frame f) → hear rate rx = .bad)) ∧
  (codeBit true = { first := true, second := false } ∧ codeBit false = { first := false, second := true }) ∧
  (startMark = (List.range 16).map fun n => (0xAAAB#16).getLsbD (15 - n)) ∧
  (∀ b : Byte, byteBits b = (List.range 8).map fun n => b.getLsbD (7 - n)) ∧
  (∀ bytes : List Byte, lineBeats bytes = (startMark ++ bytes.flatMap byteBits).map codeBit) ∧
  ([FrameKind.sync, .cold, .leave].map codeOfKind = [1#2, 2#2, 3#2]) ∧
  (∀ (f : Frame) (count sender : BitVec 4), count = BitVec.ofNat 4 f.arrivals.length →
    sender = BitVec.ofNat 4 f.sender.val →
    encodeHeader f =
      [codeOfKind f.kind ++ sender ++ count.extractLsb' 2 2, count.extractLsb' 0 2 ++ 0#6, f.round.extractLsb' 8 8,
       f.round.extractLsb' 0 8, f.view.extractLsb' 8 8, f.view.extractLsb' 0 8]) ∧
  (∀ a : ArrivalEntry, encodeArrival a =
    [a.number ++ a.epoch.extractLsb' 6 2, a.epoch.extractLsb' 0 6 ++ a.lead.extractLsb' 2 2,
     a.lead.extractLsb' 0 2 ++ a.announce.extractLsb' 10 6, a.announce.extractLsb' 2 8,
     a.announce.extractLsb' 0 2 ++ 0#6]) ∧
  (∀ (f : Frame) (body : List Byte), body = encodeHeader f ++ f.arrivals.flatMap encodeArrival →
    encodeFrame f = body ++ [(crc body).extractLsb' 8 8, (crc body).extractLsb' 0 8]) ∧
  crc [] = 0xFFFF#16 ∧
  ∀ (bytes : List Byte) (b : Byte), crc (bytes ++ [b]) =
    (List.range 8).foldl
      (fun (r : BitVec 16) (_ : Nat) => if r.getLsbD 15 = true then (r <<< 1) ^^^ 0x1021#16 else r <<< 1)
      (crc bytes ^^^ (b ++ 0#8))

/-! ### Round boundaries -/

/-- ROUND_BOUNDARY takes the reactions it names, in their order, each once, and leaves the rest of the boundary due
(R6, log entry 3): it is the fold of State.react over the boundary that it begins. Beginning it hands the records of
the closing round over, once, and starts them empty (R23). Taken alone, each reaction is what its block does: the view
of the closing round forms, empty in OFFLINE and LISTEN (R34), the peer table closes the round (R66), the line
controller evaluates it (R50), and the rendezvous table expires and fires for the round that opens (R119, R130), with
which the number of the round in progress goes on (R3, log entry 4). Station 0 assembles at the boundary if its own
slot opening is due still, as OWN_SLOT_OPENS at that instant does (R29, R104). The other blocks keep their state. -/
def Obligations.RoundBoundaryClosesRecords : Prop :=
  ∀ (order : List BoundaryReaction) (s : State), s.resetHeld = false →
    (∃ t : State, exec (.roundBoundary order) s = .next t ∧ t.frames.transmitting = s.frames.transmitting ∧
      t.settings = s.settings ∧ t.locked = s.locked ∧ t.counters = s.counters ∧ t.triggers = s.triggers ∧
      t.port = { s.port with closedNow := t.port.closedNow } ∧
      ∀ opening r due, s.Meets opening r due → .assembly ∉ due →
        t.timer.slot = (if s.timer.dueBoundary = none then 0 else s.timer.slot) ∧
        (∀ b, s.timer.boundary = some b → b.records = none ∨ b.due = [] →
          t.frames.good = 0#16 ∧ t.frames.foreign = 0#16 ∧ t.frames.mark = false) ∧
        (s.timer.boundary = none → t.frames.good = 0#16 ∧ t.frames.foreign = 0#16 ∧ t.frames.mark = false) ∧
        ∃ b, t.timer.boundary = some b ∧ b.opening = opening ∧ b.due = due.filter fun x => !order.contains x) ∧
    (s.timer.dueBoundary = none → (∀ d ∈ s.timer.correction, 0 ≤ d) →
      exec (.roundBoundary order) s = .next
        (order.foldl State.react
          { s with
            timer :=
              { s.timer with
                round := s.timer.carried, slot := 0, beat := 0, correction := none, opening := true
                boundary := some
                  { opening := s.timer.carried + 1#16, due := [.view, .peers, .line, .table]
                    records := some { good := s.frames.good, foreign := s.frames.foreign, mark := s.frames.mark } }
                ownOpening := decide (s.timer.station = 0) && decide (s.timer.station.val < s.timer.size) }
            frames := { s.frames with good := 0#16, foreign := 0#16, mark := false } })) ∧
    (∀ b : Boundary, s.timer.boundary = some b → b.due ≠ [] → b.records = none →
      exec (.roundBoundary order) s = .next
        (order.foldl State.react
          { s with
            timer :=
              { s.timer with
                boundary := some
                  { b with
                    records := some
                      { good := s.frames.good, foreign := s.frames.foreign, mark := s.frames.mark } } }
            frames := { s.frames with good := 0#16, foreign := 0#16, mark := false } })) ∧
    (∀ (b : Boundary) (r : RoundRecords), s.timer.boundary = some b → b.due ≠ [] → b.records = some r →
      exec (.roundBoundary order) s = .next (order.foldl State.react s)) ∧
    (s.timer.boundary = none → ∀ x, x ≠ .assembly → s.react x = s) ∧
    (∀ (b : Boundary) (r : RoundRecords), s.timer.boundary = some b → b.records = some r →
      (∀ x, x ≠ .assembly → x ∉ b.due → s.react x = s) ∧
      (.view ∈ b.due → s.react .view =
        { s with
          timer := { s.timer with boundary := some { b with due := b.due.filter fun y => decide (y ≠ .view) } }
          frames :=
            { s.frames with
              view :=
                if s.line.state = .offline ∨ s.line.state = .listen then 0#16
                else r.good ||| (if r.mark = true then stationBit s.timer.station else 0#16) } }) ∧
      (.peers ∈ b.due → s.react .peers =
        State.peersBoundary
          { s with
            timer := { s.timer with boundary := some { b with due := b.due.filter fun y => decide (y ≠ .peers) } } }
          (b.opening - 1#16)) ∧
      (.line ∈ b.due → s.react .line =
        State.lineBoundary
          { s with
            timer := { s.timer with boundary := some { b with due := b.due.filter fun y => decide (y ≠ .line) } } }
          (b.opening - 1#16) b.opening r.good r.foreign) ∧
      (∀ u : State,
        u = State.tableBoundary
          { s with
            timer :=
              { s.timer with
                round := b.opening
                boundary := some { b with due := b.due.filter fun y => decide (y ≠ .table) } } } b.opening →
        .table ∈ b.due → s.react .table =
          { u with
            port :=
              { s.port with
                closedNow := allSixteen.filter fun i =>
                  decide ((s.entry i).state ≠ .done ∧ (u.entry i).state = .done) } })) ∧
    (s.timer.station ≠ 0 ∨ s.timer.ownOpening = false → s.react .assembly = s) ∧
    (s.timer.station = 0 → s.timer.ownOpening = true →
      s.react .assembly = State.assemble { s with timer := { s.timer with ownOpening := false } } ∧
      (s.timer.slot = 0 → s.timer.beat = 0 → 0 < s.timer.size →
        exec .ownSlotOpens s = .next (s.react .assembly)))

/-- ROUND_BOUNDARY moves the line controller, whether it finds a boundary in progress or opens the slot itself, and
whatever the order of the reactions, if that order names the line controller's and it is due. COLDSTART: the fourth
COLD frame unanswered makes the station ACTIVE and alone (R47). INTEGRATING: the close of the integration round makes
it ACTIVE if it heard a good sender, and LISTEN otherwise (R48). ACTIVE: the yield to LISTEN with YIELDED (R51), the
exclusion count and the entry to PASSIVE, by the peers as they stand when the line controller asks (R52, R71), OFFLINE
in place of either with leave pending, without YIELDED (R55). PASSIVE: the yield, the hold count, and at the eighth
boundary integration over the round that opens (R51, R53). Otherwise, and in OFFLINE and LISTEN, the line controller
stands as it stood. First stands what the line controller's reaction does besides: a change of state raises STATE_CHANGE,
with YIELDED or ALONE, and the guarded channels follow; on entry to LISTEN or OFFLINE every pending entry closes RESYNC or
LEFT, the peer table clears, and the records and the view start empty; nothing else changes (R27, R34, R56 to R59, R74,
R98, R99, R164). -/
def Obligations.RoundBoundaryMovesLineController : Prop :=
  (∀ (u v : State) (closing opening : Round) (good foreign : StationSet),
    v = u.lineBoundary closing opening good foreign →
    v = { u with
          line := v.line, latches := v.latches, frames := v.frames, peers := v.peers, channels := v.channels
          entries := v.entries, completions := v.completions } ∧
    (v.line.state = u.line.state → v = { u with line := v.line }) ∧
    (v.line.state ≠ u.line.state →
      (∀ bits : EventSet,
        bits = 0x80#8 ||| (if u.line.state = .coldstart then 0x10#8 else 0x00#8) |||
          (if u.line.state ≠ .integrating ∧ v.line.state = .listen then 0x08#8 else 0x00#8) →
        v.latches =
          { u.latches with
            latched := u.latches.latched ||| bits
            report := u.latches.report.map fun r => { r with againEvents := r.againEvents ||| bits } }) ∧
      (∀ k, (v.channel k).PinFits v.isActive ∧
        v.channel k =
          { u.channel k with
            staged := (u.channel k).staged.filter fun p =>
              decide ((u.entry p.tag).pending = false ∨ (v.entry p.tag).pending = true)
            forced := (v.channel k).forced, pin := (v.channel k).pin }) ∧
      (v.line.state ≠ .listen → v.line.state ≠ .offline →
        v.frames = u.frames ∧ v.entries = u.entries ∧ v.completions = u.completions ∧
        (u.line.state ≠ .coldstart → v.peers = u.peers)) ∧
      (v.line.state = .listen ∨ v.line.state = .offline →
        v.frames =
          { u.frames with
            announce :=
              { uncarried := u.frames.announce.uncarried.filter fun i => !(u.entry i).pending
                carried := u.frames.announce.carried.filter fun i => !(u.entry i).pending }
            assembled := u.frames.assembled.map fun f =>
              { f with named := f.named.filter fun i => !(u.entry i).pending }
            good := 0#16, foreign := 0#16, mark := false, view := 0#16 } ∧
        v.peers = PeerTable.cleared ∧
        v.completions = u.completions ++ allSixteen.filter (fun i => (u.entry i).pending) ∧
        ∀ i, v.entry i =
          if (u.entry i).pending = true then
            { u.entry i with
              state := .done, outcome := some .abandoned
              reason := some (if v.line.state = .listen then .resync else .left) }
          else u.entry i))) ∧
  ∀ (order : List BoundaryReaction) (s : State) (opening : Round) (r : RoundRecords) (due : List BoundaryReaction),
    s.resetHeld = false → s.Meets opening r due →
    ∃ t : State, exec (.roundBoundary order) s = .next t ∧
    ((.line ∉ order ∨ .line ∉ due) → t.line = s.line) ∧
    (.line ∈ order → .line ∈ due →
      (s.line.state = .offline ∨ s.line.state = .listen → t.line = s.line) ∧
      (s.line.state = .coldstart → s.line.coldSent ≠ 4 → t.line = s.line) ∧
      (s.line.state = .coldstart → s.line.coldSent = 4 →
        t.line.state = .active ∧ t.line.alone = true ∧ t.line.coldSent = 0 ∧
        t.latches.latched.getLsbD 7 = true ∧ t.latches.latched.getLsbD 4 = true) ∧
      (s.line.state = .integrating → s.line.integration ≠ some (opening - 1#16) → t.line = s.line) ∧
      (s.line.state = .integrating → s.line.integration = some (opening - 1#16) → r.good ≠ 0#16 →
        t.line.state = .active ∧ t.line.integration = none ∧ t.latches.latched.getLsbD 7 = true) ∧
      (s.line.state = .integrating → s.line.integration = some (opening - 1#16) → r.good = 0#16 →
        t.line.state = .listen ∧ t.line.integration = none ∧
        t.line.listen = some ((2 * s.settings.size + s.timer.station.val) * 512) ∧ t.frames.view = 0#16 ∧
        t.latches.latched.getLsbD 7 = true ∧ ∀ i, (t.entry i).pending = false) ∧
      (∀ own : StationSet,
        ((s.line.state = .active ∧ own = r.good ||| stationBit s.timer.station) ∨
          (s.line.state = .passive ∧ own = r.good)) → yields own r.foreign = true →
        (s.line.state = .active → t.line.excluded = 0) ∧
        t.line.hold = (if s.line.state = .passive then 0 else s.line.hold) ∧
        t.latches.latched.getLsbD 7 = true ∧ t.frames.view = 0#16 ∧ (∀ i, (t.entry i).pending = false) ∧
        (s.line.leavePending = false → t.line.state = .listen ∧ t.latches.latched.getLsbD 3 = true ∧
          t.line.listen = some ((2 * s.settings.size + s.timer.station.val) * 512)) ∧
        (s.line.leavePending = true → t.line.state = .offline ∧ t.line.leavePending = false ∧
          t.latches.latched.getLsbD 3 = s.latches.latched.getLsbD 3)) ∧
      (∀ (pre post : List BoundaryReaction) (u : State) (p q : Nat), order = pre ++ .line :: post → .line ∉ pre →
        u = (if .peers ∈ pre ∧ .peers ∈ due then s.peersBoundary (opening - 1#16) else s) →
        p = (allSixteen.filter fun k => decide (u.ViewNames (opening - 1#16) false k)).length →
        q = (allSixteen.filter fun k => decide (u.ViewNames (opening - 1#16) true k)).length →
        s.line.state = .active → yields (r.good ||| stationBit s.timer.station) r.foreign = false →
        t.latches.latched.getLsbD 3 = s.latches.latched.getLsbD 3 ∧
        (p ≤ q → t.line = { s.line with excluded := 0 }) ∧
        (q < p → s.line.excluded = 0 → t.line = { s.line with excluded := 1 }) ∧
        (q < p → 1 ≤ s.line.excluded → s.line.leavePending = false →
          t.line.state = .passive ∧ t.line.excluded = 0 ∧ t.line.hold = 0 ∧
          t.latches.latched.getLsbD 7 = true) ∧
        (q < p → 1 ≤ s.line.excluded → s.line.leavePending = true →
          t.line.state = .offline ∧ t.line.leavePending = false ∧ t.line.excluded = 0 ∧
          t.latches.latched.getLsbD 7 = true ∧ t.frames.view = 0#16 ∧ ∀ i, (t.entry i).pending = false)) ∧
      (s.line.state = .passive → yields r.good r.foreign = false → s.line.hold < 7 →
        t.line = { s.line with hold := s.line.hold + 1 }) ∧
      (s.line.state = .passive → yields r.good r.foreign = false → 7 ≤ s.line.hold →
        t.line.state = .integrating ∧ t.line.hold = 0 ∧ t.line.integration = some opening ∧
        t.latches.latched.getLsbD 7 = true))

/-- The yield check (R51): a station yields exactly when the other side has more members than its own, or as many and a
member below every member of its own. When two rounds hear each other fully, the sides are mirror images and exactly one
of the two yields: the smaller, or of two equal ones that without the lowest station number. -/
def Obligations.ExactlyOneSideYields : Prop :=
  (allSixteen.Pairwise (· < ·) ∧ ∀ k, k ∈ allSixteen) ∧
  (∀ own other : StationSet, yields own other = true ↔
    ((allSixteen.filter (hasStation own)).length < (allSixteen.filter (hasStation other)).length ∨
      ((allSixteen.filter (hasStation own)).length = (allSixteen.filter (hasStation other)).length ∧
        ∃ k, hasStation other k = true ∧ ∀ j, hasStation own j = true → k < j))) ∧
  ∀ a b : StationSet, a ≠ 0#16 → b ≠ 0#16 → a &&& b = 0#16 → yields a b = !yields b a

/-- The peer table closes a round: a heard peer is PRESENT with silence 0, any other has one more silent round, at
most 7, and a PRESENT one is ABSENT when the count reaches the loss limit; joins raise PEER_JOINED and losses
PEER_LOST, each named in its station set, and the peers lost are named in one notice to the rendezvous table (R66 to
R70); records not in use, and a round before the start round, are left alone, and nothing but the peer table, the
latches and what the notice reaches changes. -/
def Obligations.PeersCloseRound : Prop :=
  ∀ (s : State) (c : Round), s.peers.tracking = true →
    (∀ r, s.peers.startRound = some r → r ≠ c → s.peersBoundary c = s) ∧
    (s.peers.startRound = none ∨ s.peers.startRound = some c → (∀ k, (s.peer k).silence ≤ 7) →
      ∃ lost joined : StationSet,
        (∀ k, hasStation lost k = true ↔ (k.val < s.settings.size ∧ k ≠ s.timer.station ∧
          ((s.peer k).lastRound ≠ some c ∨ (s.peer k).departed = true) ∧ (s.peer k).present = true ∧
          min 7 ((s.peer k).silence + 1) = s.settings.lossLimit)) ∧
        (∀ k, hasStation joined k = true ↔ (k.val < s.settings.size ∧ k ≠ s.timer.station ∧
          (s.peer k).lastRound = some c ∧ (s.peer k).departed = false ∧ (s.peer k).present = false)) ∧
        s.peersBoundary c =
          { s.lossNotice lost with
            peers := (s.peersBoundary c).peers, latches := (s.raisePeers joined lost).latches } ∧
        (lost ≠ 0#16 → (s.peersBoundary c).latches.latched.getLsbD 5 = true) ∧
        (lost = 0#16 → (s.peersBoundary c).latches.latched.getLsbD 5 = s.latches.latched.getLsbD 5)) ∧
    (s.peers.startRound = none ∨ s.peers.startRound = some c → (s.peersBoundary c).peers.startRound = none ∧
      ∀ k : Station,
      (k.val < s.settings.size → k ≠ s.timer.station →
        (s.peer k).lastRound = some c → (s.peer k).departed = false →
          ((s.peersBoundary c).peer k).present = true ∧ ((s.peersBoundary c).peer k).silence = 0 ∧
          (hasStation (s.peersBoundary c).latches.joined k =
            (hasStation s.latches.joined k || !(s.peer k).present)) ∧
          ((s.peer k).present = false → (s.peersBoundary c).latches.latched.getLsbD 6 = true)) ∧
      (k.val < s.settings.size → k ≠ s.timer.station → (s.peer k).silence ≤ 7 →
        ((s.peer k).lastRound ≠ some c ∨ (s.peer k).departed = true) →
          ((s.peersBoundary c).peer k).silence = min 7 ((s.peer k).silence + 1) ∧
          ((s.peersBoundary c).peer k).departed = false ∧
          ((s.peersBoundary c).peer k).present =
            ((s.peer k).present && decide (min 7 ((s.peer k).silence + 1) ≠ s.settings.lossLimit)) ∧
          (hasStation (s.peersBoundary c).latches.lost k =
            (hasStation s.latches.lost k ||
              ((s.peer k).present && decide (min 7 ((s.peer k).silence + 1) = s.settings.lossLimit))))) ∧
      ((s.settings.size ≤ k.val ∨ k = s.timer.station) → (s.peersBoundary c).peer k = s.peer k))

/-- The rendezvous table's reaction to the boundary that opens a round, in a synced state: every COMPLETE entry whose
fire round opens closes FIRED or FIRED_LATE with that actual fire round, every ARMED entry whose deadline round opens
closes EXPIRED, and the markers named by the firing set pulse for 512 beats. The chain of a firing entry is taken if
its target is HELD and staged on every channel of its mask: the target is armed in the round that opens, and an
IMMEDIATE one arrives. A HELD target that is not staged closes ABANDONED with reason NOT_STAGED, and a target that is
not HELD, or that a firing entry of a lower index has taken already, takes no further chain. The completions are
appended in ascending order; other COMPLETE and ARMED entries, HELD ones that no firing entry names, and FREE and DONE
ones are left alone. The entries that close leave the announce queue, and the IMMEDIATE targets join its uncarried part in
ascending order of their own index, whatever the order of the chains, since the boundary is one event (R6, R90, R93, R103,
R104, R119, R130, R131, R134, R136 to R139). Every channel takes its swap instruction for the firing set, as
LatestStagedSetWins has it, and loses the pairs of the entries that close; the superseded channels of a fired entry are
those of these swaps (R90, R132, R133). -/
def Obligations.TableBoundaryFiresAndExpires : Prop :=
  ∀ (s : State) (opening : Round), s.line.state.synced = true → ∀ fires : EntryIndex → Prop,
    (∀ i, fires i ↔ (s.entry i).state = .complete ∧ (s.entry i).fireRound = some opening) →
    (∀ i : EntryIndex, fires i →
      ((s.tableBoundary opening).entry i).state = .done ∧
      ((s.tableBoundary opening).entry i).outcome =
        some (if (s.entry i).late = true then .firedLate else .fired) ∧
      ((s.tableBoundary opening).entry i).reason = none ∧
      ((s.tableBoundary opening).entry i).actualFire = some opening ∧
      ((s.tableBoundary opening).entry i).record = (s.entry i).record ∧ i ∈ (s.tableBoundary opening).completions ∧
      (∀ k : MarkerIndex, (s.entry i).record.markers.getLsbD k.val = true →
        (s.tableBoundary opening).marker k = { high := true, remaining := 512 }) ∧
      ((s.entry i).record.chain = none →
        ((s.tableBoundary opening).entry i).chainTaken = (s.entry i).chainTaken) ∧
      (∀ j : EntryIndex, (s.entry i).record.chain = some j →
        ((s.entry j).state = .held → s.fullyStaged j = true →
          (s.tableBoundary opening).entry j =
            { s.entry j with
              state := .armed, armRound := some opening
              arrived := decide ((s.entry j).record.condition = .immediate ∧ s.participates (s.entry j) = true)
              records := Vector.replicate 16 none, recordedLead := none, channelCount := 0#8 } ∧
          ((s.entry j).record.condition = .immediate → s.participates (s.entry j) = true →
            j ∈ (s.tableBoundary opening).frames.announce.uncarried)) ∧
        ((s.entry j).state = .held → s.fullyStaged j = false →
          (s.tableBoundary opening).entry j =
            { s.entry j with state := .done, outcome := some .abandoned, reason := some .notStaged } ∧
          j ∈ (s.tableBoundary opening).completions) ∧
        ((s.entry j).state = .held → s.fullyStaged j = true →
          (∀ i', i' < i → fires i' → (s.entry i').record.chain ≠ some j) →
          ((s.tableBoundary opening).entry i).chainTaken = true) ∧
        (((s.entry j).state ≠ .held ∨ s.fullyStaged j = false ∨
            ∃ i', i' < i ∧ fires i' ∧ (s.entry i').record.chain = some j) →
          ((s.tableBoundary opening).entry i).chainTaken = (s.entry i).chainTaken))) ∧
    (∀ (i : EntryIndex) (a : Round), (s.entry i).state = .armed → (s.entry i).record.deadline ≠ 0#12 →
      (s.entry i).armRound = some a → a + (s.entry i).record.deadline.setWidth 16 = opening →
      (s.tableBoundary opening).entry i =
        { s.entry i with state := .done, outcome := some .expired, reason := none } ∧
      i ∈ (s.tableBoundary opening).completions) ∧
    (∀ i : EntryIndex,
      (s.entry i).state = .free ∨ (s.entry i).state = .done ∨
          ((s.entry i).state = .complete ∧ (s.entry i).fireRound ≠ some opening) ∨
          ((s.entry i).state = .armed ∧
            ((s.entry i).record.deadline = 0#12 ∨ (s.entry i).armRound = none ∨
              ∃ a, (s.entry i).armRound = some a ∧ a + (s.entry i).record.deadline.setWidth 16 ≠ opening)) ∨
          ((s.entry i).state = .held ∧ ∀ j, fires j → (s.entry j).record.chain ≠ some i) →
        (s.tableBoundary opening).entry i = s.entry i) ∧
    (∀ k : MarkerIndex, (∀ i, fires i → (s.entry i).record.markers.getLsbD k.val = false) →
      (s.tableBoundary opening).marker k = s.marker k) ∧
    (∃ l : List EntryIndex, (s.tableBoundary opening).completions = s.completions ++ l ∧ l.Pairwise (· < ·)) ∧
    (∀ closes : EntryIndex → Bool,
      (∀ i, closes i = true ↔ (s.entry i).state ≠ .done ∧ ((s.tableBoundary opening).entry i).state = .done) →
      ∃ l : List EntryIndex,
        (s.tableBoundary opening).frames.announce =
          { uncarried := (s.frames.announce.uncarried.filter fun i => !closes i) ++ l
            carried := s.frames.announce.carried.filter fun i => !closes i } ∧
        l.Pairwise (· < ·) ∧
        ∀ j, j ∈ l ↔ (s.entry j).state = .held ∧ s.fullyStaged j = true ∧
          (s.entry j).record.condition = .immediate ∧ s.participates (s.entry j) = true ∧
          ∃ i, fires i ∧ (s.entry i).record.chain = some j) ∧
    (∀ firing : List EntryIndex, firing.Pairwise (· < ·) → (∀ i, i ∈ firing ↔ fires i) →
      ∀ k : ChannelIndex,
        (∀ c : Channel, c = (s.swapChannel firing k).channel k →
          (s.tableBoundary opening).channel k =
            { c with
              staged := c.staged.filter fun p =>
                decide ((s.entry p.tag).state = .done ∨ ((s.tableBoundary opening).entry p.tag).state ≠ .done) }) ∧
        ∀ i, fires i →
          hasChannel ((s.tableBoundary opening).entry i).superseded k =
            hasChannel ((s.swapChannel firing k).entry i).superseded k)

/-- A channel takes its swap instruction: of the pairs that entries of the firing set own, the one standing latest
becomes active and its run begins, the others leave the queue and their entries are superseded on the channel, and the
other pairs stay; a channel without such a pair, and every other channel, is left alone (R132, R133, R149, R160, R161,
R164). -/
def Obligations.LatestStagedSetWins : Prop :=
  ∀ (firing : List EntryIndex) (s : State) (k : ChannelIndex) (pairs : List StagedPair),
    pairs = ((s.channel k).staged.filter fun p =>
      decide (p.tag ∈ firing ∧ hasChannel (s.entry p.tag).record.channels k = true)) →
    (pairs = [] → s.swapChannel firing k = s) ∧
    (∀ (front : List StagedPair) (w : StagedPair), pairs = front ++ [w] →
      ((s.swapChannel firing k).channel k).active = w.set ∧
      ((s.swapChannel firing k).channel k).staged = ((s.channel k).staged.filter fun p => !pairs.contains p) ∧
      ((s.swapChannel firing k).channel k).periodEnds = 0#16 ∧
      ((s.swapChannel firing k).channel k).position = 0 ∧ ((s.swapChannel firing k).channel k).owed = false ∧
      ((s.swapChannel firing k).channel k).PinFits s.isActive ∧
      (w.set.mode = .off ∨ w.set.mode = .level →
        ((s.swapChannel firing k).channel k).run = .idle ∧
        ((s.swapChannel firing k).channel k).phaseRemaining = 0) ∧
      (w.set.mode = .periodic ∨ w.set.mode = .burst →
        ((s.swapChannel firing k).channel k).run = (if w.set.phase = 0#16 then .running else .waiting) ∧
        ((s.swapChannel firing k).channel k).phaseRemaining = w.set.phase.toNat) ∧
      ((s.swapChannel firing k).channel k).periodsRemaining = (if w.set.mode = .burst then w.set.count.toNat else 0) ∧
      ((s.swapChannel firing k).channel k).forced = (w.set.guard && decide (s.line.state ≠ .active)) ∧
      (w.set.guard = true → s.line.state ≠ .active → ((s.swapChannel firing k).channel k).pin = w.set.safe) ∧
      (∀ p ∈ front, p.tag ≠ w.tag →
        hasChannel ((s.swapChannel firing k).entry p.tag).superseded k = true) ∧
      (∀ i, (∃ p ∈ front, p.tag = i) → i ≠ w.tag →
        (s.swapChannel firing k).entry i =
          { s.entry i with superseded := (s.entry i).superseded ||| (1#8 <<< k.val) }) ∧
      (∀ i, (∀ p ∈ front, p.tag ≠ i) ∨ i = w.tag → (s.swapChannel firing k).entry i = s.entry i) ∧
      ∀ j, j ≠ k → (s.swapChannel firing k).channel j = s.channel j)

/-! ### Agreement -/

/-- Completion (R115 to R118): an ARMED entry whose arrivals are all known, the least age among its announce rounds
being that of a, completes with the fire round a + lead when that age is below the lead; otherwise it closes MISSED
under SKIP and completes late, for the next round, under APPLY. An entry that lacks an arrival, or is not ARMED, is
left alone. Every arrival is known when the own announce round is present in a participant's entry and there is a record
of every other participant, the announce rounds are these, and the lead is the effective lead of a participant, its
loaded lead or the default for 0, and the recorded lead of an observer (R78, R109, R115, R116). -/
def Obligations.CompletionFollowsLeastAge : Prop :=
  (∀ (s : State) (e : Entry), (s.participates e = true ↔ hasStation e.record.participants s.timer.station = true) ∧
    (s.arrivalsKnown e = true ↔ (s.participates e = true → e.ownAnnounce ≠ none) ∧
      ∀ k : Station, hasStation e.record.participants k = true → k ≠ s.timer.station → e.records[k] ≠ none) ∧
    (∀ b : Round, b ∈ s.knownRounds e ↔ (s.participates e = true ∧ e.ownAnnounce = some b) ∨
      ∃ k : Station, hasStation e.record.participants k = true ∧ k ≠ s.timer.station ∧ e.records[k] = some b) ∧
    (s.effectiveLead e = if e.record.lead = 0#4 then s.settings.defaultLead else e.record.lead) ∧
    (s.participates e = true → s.agreedLead e = s.effectiveLead e) ∧
    (∀ lead, s.participates e = false → e.recordedLead = some lead → s.agreedLead e = lead)) ∧
  ∀ (s : State) (i : EntryIndex) (a : Round),
    ((s.entry i).state ≠ .armed ∨ s.arrivalsKnown (s.entry i) = false → s.testCompletion i = s) ∧
    ((s.entry i).state = .armed → s.arrivalsKnown (s.entry i) = true → a ∈ s.knownRounds (s.entry i) →
      (∀ b ∈ s.knownRounds (s.entry i), (s.timer.round - a).toNat ≤ (s.timer.round - b).toNat) →
      (s.timer.round - a).toNat ≤ 32767 →
      ((s.timer.round - a).toNat < (s.agreedLead (s.entry i)).toNat →
        s.testCompletion i =
          { s with
            entries := s.entries.set i
              { s.entry i with
                state := .complete, late := false
                fireRound := some (a + BitVec.ofNat 16 (s.agreedLead (s.entry i)).toNat) } }) ∧
      ((s.agreedLead (s.entry i)).toNat ≤ (s.timer.round - a).toNat → (s.entry i).record.late = .apply →
        s.testCompletion i =
          { s with
            entries := s.entries.set i
              { s.entry i with state := .complete, late := true, fireRound := some (s.timer.round + 1#16) } }) ∧
      ((s.agreedLead (s.entry i)).toNat ≤ (s.timer.round - a).toNat → (s.entry i).record.late = .skip →
        ((s.testCompletion i).entry i).state = .done ∧ ((s.testCompletion i).entry i).outcome = some .missed ∧
        i ∉ (s.testCompletion i).frames.announce.all ∧
        ∀ k, ((s.testCompletion i).channel k).isStaged i = false))

/-- An arrival entry of a good frame that reaches a pending entry: it is ignored where it is not well dated or its
sender is no participant; where the station is a participant its lead is compared with the effective lead, and in an
observer entry with the recorded lead, which the first arrival entry sets; it raises LEAD_CONFLICT where the leads
differ, is recorded where none is, with the test for completion, changes nothing where it repeats, and counts a
conflict where it differs. Without a pending entry of its number it is ignored, and so it is when its epoch is held by
a HELD or DONE entry alone; under an epoch that no entry outside FREE holds it raises EPOCH_CONFLICT (R109 to R115,
R128). The entries of one frame are taken in their order, in one reaction (R93, R110). -/
def Obligations.ArrivalEntriesAreTaken : Prop :=
  ∀ (k : Station) (r : Round) (s : State), s.NamesUnique →
    (∀ (l : List ArrivalEntry) (u : State), u = l.foldl (State.hearArrival k r) s →
      s.hearArrivals k r l =
        { u with
          completions := s.completions ++ allSixteen.filter fun i =>
            decide ((s.entry i).state ≠ .done ∧ (u.entry i).state = .done) }) ∧
    ∀ a : ArrivalEntry,
    (a.announce ≠ r → precedes a.announce r = false → s.hearArrival k r a = s) ∧
    (a.announce = r ∨ precedes a.announce r = true →
      ((∀ i, (s.entry i).pending = true → (s.entry i).record.number ≠ a.number) → s.hearArrival k r a = s) ∧
      ((∃ i, (s.entry i).pending = true ∧ (s.entry i).record.number = a.number) →
        (∀ i, (s.entry i).state ≠ .free → (s.entry i).record.number = a.number →
          (s.entry i).record.epoch ≠ a.epoch) →
        s.hearArrival k r a = s.raise .epochConflict ∧
        (s.hearArrival k r a).latches.latched = s.latches.latched ||| 0x04#8) ∧
      (∀ i, ((s.entry i).state = .held ∨ (s.entry i).state = .done) → (s.entry i).record.number = a.number →
        (s.entry i).record.epoch = a.epoch → s.hearArrival k r a = s) ∧
      (∀ i, (s.entry i).pending = true → (s.entry i).record.number = a.number → (s.entry i).record.epoch = a.epoch →
        (hasStation (s.entry i).record.participants k = false → s.hearArrival k r a = s) ∧
        (hasStation (s.entry i).record.participants k = true → ∀ lead : Option (BitVec 4),
          lead = (if s.participates (s.entry i) = true then some (s.effectiveLead (s.entry i))
            else (s.entry i).recordedLead) →
          (∀ b, lead = some b → b ≠ a.lead →
            s.hearArrival k r a = s.raise .leadConflict ∧
            (s.hearArrival k r a).latches.latched = s.latches.latched ||| 0x02#8) ∧
          (lead = none → (s.entry i).records[k] = none →
            s.hearArrival k r a =
              State.testCompletion
                { s with
                  entries := s.entries.set i
                    { s.entry i with
                      recordedLead := some a.lead
                      records := (s.entry i).records.set k (some a.announce) } } i) ∧
          (lead = some a.lead →
            ((s.entry i).records[k] = none →
              ((s.hearArrival k r a).entry i).records[k] = some a.announce ∧
              s.hearArrival k r a =
                State.testCompletion
                  { s with
                    entries := s.entries.set i
                      { s.entry i with records := (s.entry i).records.set k (some a.announce) } } i) ∧
            ((s.entry i).records[k] = some a.announce → s.hearArrival k r a = s) ∧
            (∀ b, (s.entry i).records[k] = some b → b ≠ a.announce →
              s.hearArrival k r a =
                { s with
                  counters :=
                    { s.counters with
                      conflicts := BitVec.ofNat 16 (min 65535 (s.counters.conflicts.toNat + 1)) } })))))

/-- A loss notice closes exactly the ARMED entries, of participants and observers alike, that lack the arrival of a
participant it names, ABANDONED with reason PEER_LOST as R90 states: they leave the announce queue, their staged sets are
discarded, and their indices are appended in ascending order. Every other entry is left alone (R93, R120). -/
def Obligations.LossNoticeAbandonsWaitingEntries : Prop :=
  ∀ (s : State) (lost : StationSet) (closes : EntryIndex → Prop),
    (∀ i, closes i ↔ (s.entry i).state = .armed ∧
      ∃ k : Station, hasStation (s.entry i).record.participants k = true ∧ hasStation lost k = true ∧
        (s.entry i).records[k] = none) →
    (∀ i : EntryIndex, closes i →
      (s.lossNotice lost).entry i =
        { s.entry i with state := .done, outcome := some .abandoned, reason := some .peerLost } ∧
      i ∉ (s.lossNotice lost).frames.announce.all ∧ ∀ k, ((s.lossNotice lost).channel k).isStaged i = false) ∧
    (∀ i : EntryIndex, ¬closes i →
      (s.lossNotice lost).entry i = s.entry i ∧
      (i ∈ (s.lossNotice lost).frames.announce.all ↔ i ∈ s.frames.announce.all) ∧
      ∀ k, ((s.lossNotice lost).channel k).isStaged i = (s.channel k).isStaged i) ∧
    (∃ l : List EntryIndex, (s.lossNotice lost).completions = s.completions ++ l ∧ l.Pairwise (· < ·) ∧
      ∀ i, i ∈ l ↔ closes i)

/-! ### Trigger inputs, channels and markers -/

/-- TRIGGER_EDGE: an absent level is set without an edge, an equal sample changes nothing, and a differing one sets the
level and the last-edge record and makes every waiting entry that it matches arrive, in ascending order (R103, R106,
R167, R168, R169). TRIGGER_SAMPLE takes its samples one after another as such samples (R167, R168). -/
def Obligations.TriggerEdgesMakeEntriesArrive : Prop :=
  ∀ (k : InputIndex) (high : Bool) (s : State), s.resetHeld = false →
    ((s.trigger k).level = none → ∃ t : State, exec (.triggerEdge k high) s = .next t ∧
      t = { s with triggers := t.triggers } ∧ t.trigger k = { s.trigger k with level := some high } ∧
      ∀ j, j ≠ k → t.trigger j = s.trigger j) ∧
    ((s.trigger k).level = some high → exec (.triggerEdge k high) s = .next s) ∧
    ((s.trigger k).level = some (!high) → ∃ t : State, exec (.triggerEdge k high) s = .next t ∧
      t = { s with triggers := t.triggers, entries := t.entries, frames := t.frames } ∧
      t.trigger k = { level := some high, lastEdge := some s.timer.round } ∧
      (∀ j, j ≠ k → t.trigger j = s.trigger j) ∧
      (∀ (i : EntryIndex) (e : EdgeChoice), (s.entry i).state = .armed → s.participates (s.entry i) = true →
        (s.entry i).arrived = false → (s.entry i).record.condition = .trigger k e →
        (e = .either ∨ (e = .rising ∧ high = true) ∨ (e = .falling ∧ high = false)) →
        t.entry i = { s.entry i with arrived := true } ∧ i ∈ t.frames.announce.uncarried) ∧
      (∀ i : EntryIndex, (¬∃ e : EdgeChoice, (s.entry i).state = .armed ∧ s.participates (s.entry i) = true ∧
          (s.entry i).arrived = false ∧ (s.entry i).record.condition = .trigger k e ∧
          (e = .either ∨ (e = .rising ∧ high = true) ∨ (e = .falling ∧ high = false))) →
        t.entry i = s.entry i) ∧
      ∃ l : List EntryIndex,
        t.frames =
          { s.frames with announce := { s.frames.announce with uncarried := s.frames.announce.uncarried ++ l } } ∧
        l.Pairwise (· < ·) ∧
        ∀ i, i ∈ l ↔ ∃ e : EdgeChoice, (s.entry i).state = .armed ∧ s.participates (s.entry i) = true ∧
          (s.entry i).arrived = false ∧ (s.entry i).record.condition = .trigger k e ∧
          (e = .either ∨ (e = .rising ∧ high = true) ∨ (e = .falling ∧ high = false))) ∧
    (∀ samples : List (InputIndex × Bool), ∃ t : State, exec (.triggerSample samples) s = .next t ∧
      runCommands (samples.map fun p => .triggerEdge p.1 p.2) s = .next t ∧
      (∀ p ∈ samples, (samples.map Prod.fst).Nodup → (t.trigger p.1).level = some p.2) ∧
      ∀ j, j ∉ samples.map Prod.fst → t.trigger j = s.trigger j)

/-- PHASE_WAIT_END: a WAITING channel is RUNNING at position 0; HIGH_TO_LOW_CHANGE: a RUNNING channel below its high
time stands at it, and its generated level is low; no other channel and no other block changes (R147, R149, R150,
R163). That PHASE_WAIT_END of a channel that does not wait, and HIGH_TO_LOW_CHANGE of one that has no fall ahead of it in
its period, change nothing is the model's choice (log entry 25). -/
def Obligations.PhaseWaitAndFallChangeChannel : Prop :=
  (∀ s : State, s.isActive = true ↔ s.line.state = .active) ∧
  (∀ c : Channel,
    (c.forced = true ∨ c.active.mode = .off → c.pinLevel = c.active.safe) ∧
    (c.forced = false → c.active.mode = .level → c.run = .idle → c.pinLevel = (c.active.level != c.active.invert)) ∧
    (c.forced = false → c.active.mode = .periodic ∨ c.active.mode = .burst →
      (c.run = .running → c.pinLevel = (decide (c.position < c.active.high.toNat) != c.active.invert)) ∧
      (c.run = .waiting ∨ c.run = .finished → c.pinLevel = c.active.invert))) ∧
  ∀ (k : ChannelIndex) (s : State), s.resetHeld = false →
    ((s.channel k).run = .waiting → ∃ t : State, exec (.phaseWaitEnd k) s = .next t ∧
      t = { s with channels := t.channels } ∧ (∀ j, j ≠ k → t.channel j = s.channel j) ∧
      (t.channel k).run = .running ∧ (t.channel k).position = 0 ∧ (t.channel k).phaseRemaining = 0 ∧
      (t.channel k).owed = false ∧ (t.channel k).PinFits s.isActive ∧
      (t.channel k).periodsRemaining = (s.channel k).periodsRemaining ∧
      (t.channel k).periodEnds = (s.channel k).periodEnds ∧ (t.channel k).active = (s.channel k).active ∧
      (t.channel k).staged = (s.channel k).staged) ∧
    ((s.channel k).run ≠ .waiting → exec (.phaseWaitEnd k) s = .next s) ∧
    ((s.channel k).run = .running → (s.channel k).position < (s.channel k).active.high.toNat →
      (s.channel k).active.high.toNat < (s.channel k).active.period.toNat →
      ∃ t : State, exec (.highToLowChange k) s = .next t ∧
        t = { s with channels := t.channels } ∧ (∀ j, j ≠ k → t.channel j = s.channel j) ∧
        (t.channel k).run = .running ∧ (t.channel k).position = (s.channel k).active.high.toNat ∧
        (t.channel k).phaseRemaining = (s.channel k).phaseRemaining ∧
        (t.channel k).owed = false ∧ (t.channel k).PinFits s.isActive ∧
        (t.channel k).periodsRemaining = (s.channel k).periodsRemaining ∧
        (t.channel k).periodEnds = (s.channel k).periodEnds ∧ (t.channel k).active = (s.channel k).active ∧
        (t.channel k).staged = (s.channel k).staged ∧
        ((s.channel k).active.mode ≠ .off →
          ((s.channel k).active.guard = false ∨ s.line.state = .active) →
          (t.channel k).pin = (s.channel k).active.invert) ∧
        ((s.channel k).active.guard = true → s.line.state ≠ .active →
          (t.channel k).pin = (s.channel k).active.safe)) ∧
    ((s.channel k).run ≠ .running ∨ (s.channel k).active.high.toNat ≤ (s.channel k).position ∨
        (s.channel k).active.period.toNat ≤ (s.channel k).active.high.toNat →
      exec (.highToLowChange k) s = .next s)

/-- PERIOD_END: the period end is counted, saturating; the next period begins at position 0, or a burst whose last
period it was is FINISHED; every waiting entry whose CHANNEL condition names the channel counts it and arrives at its
n-th, and no other entry changes (R103, R107, R108, R150, R151, R152). That PERIOD_END of a channel that does not run
changes nothing is the model's choice (log entry 25). -/
def Obligations.PeriodEndCountsAndArrives : Prop :=
  ∀ (k : ChannelIndex) (s : State), s.resetHeld = false →
    ((s.channel k).run ≠ .running → exec (.periodEnd k) s = .next s) ∧
    ((s.channel k).run = .running → ∃ t : State, exec (.periodEnd k) s = .next t ∧
      t = { s with channels := t.channels, entries := t.entries, frames := t.frames } ∧
      (∀ j, j ≠ k → t.channel j = s.channel j) ∧ (t.channel k).position = 0 ∧
      (t.channel k).owed = false ∧ (t.channel k).PinFits s.isActive ∧
      (t.channel k).phaseRemaining = (s.channel k).phaseRemaining ∧
      (t.channel k).active = (s.channel k).active ∧ (t.channel k).staged = (s.channel k).staged ∧
      (t.channel k).periodEnds = BitVec.ofNat 16 (min 65535 ((s.channel k).periodEnds.toNat + 1)) ∧
      ((s.channel k).active.mode ≠ .burst →
        (t.channel k).run = .running ∧ (t.channel k).periodsRemaining = (s.channel k).periodsRemaining) ∧
      ((s.channel k).active.mode = .burst → 1 < (s.channel k).periodsRemaining →
        (t.channel k).run = .running ∧ (t.channel k).periodsRemaining = (s.channel k).periodsRemaining - 1) ∧
      ((s.channel k).active.mode = .burst → (s.channel k).periodsRemaining = 1 →
        (t.channel k).run = .finished ∧ (t.channel k).periodsRemaining = 0) ∧
      (∀ (i : EntryIndex) (n : BitVec 8), (s.entry i).state = .armed → s.participates (s.entry i) = true →
        (s.entry i).arrived = false → (s.entry i).record.condition = .channel k n →
        (s.entry i).channelCount.toNat < n.toNat →
        t.entry i =
          { s.entry i with
            channelCount := BitVec.ofNat 8 ((s.entry i).channelCount.toNat + 1)
            arrived := decide ((s.entry i).channelCount.toNat + 1 = n.toNat) } ∧
        ((s.entry i).channelCount.toNat + 1 = n.toNat → i ∈ t.frames.announce.uncarried)) ∧
      (∀ i : EntryIndex, (s.entry i).state ≠ .armed ∨ s.participates (s.entry i) = false ∨
          (s.entry i).arrived = true ∨ (∀ n, (s.entry i).record.condition ≠ .channel k n) →
        t.entry i = s.entry i) ∧
      ∃ l : List EntryIndex,
        t.frames =
          { s.frames with announce := { s.frames.announce with uncarried := s.frames.announce.uncarried ++ l } } ∧
        l.Pairwise (· < ·) ∧ ∀ i, i ∈ l ↔ (s.entry i).arrived = false ∧ (t.entry i).arrived = true)

/-- MARKER_PULSE_END: the marker is low with no length left, and nothing else changes (R170). -/
def Obligations.MarkerPulseEnds : Prop :=
  ∀ (k : MarkerIndex) (s : State), s.resetHeld = false → ∃ t : State, exec (.markerPulseEnd k) s = .next t ∧
    t = { s with markers := t.markers } ∧ t.marker k = { high := false, remaining := 0 } ∧
    ∀ j, j ≠ k → t.marker j = s.marker j

/-! ### The local port: framing -/

/-- TRANSACTION_START in IDLE begins a transaction in COMMAND with empty transaction state (R177, R178); that it
changes nothing in any other port state is the model's choice (log entry 25). BAD_COMMAND answers an unknown byte with
BAD_COMMAND and no data, and nothing else changes (R179); that the row is taken in IDLE (log entry 11), and that a
byte that names a command is not its row's (log entry 21), is the model's choice. The command bytes, their argument and
data bytes and the result bytes are those of Tables 47 and 48, and POP, TAKE EVENTS and READ COUNTERS have a commit
(R180). -/
def Obligations.TransactionStartsAndUnknownByte : Prop :=
  ([PortCommand.configure, .reset, .readStatus, .readCounters, .join, .leave, .load, .arm, .arrive, .cancel, .pop,
      .readEntry, .stage, .unstage, .readChannel, .takeEvents].map
      (fun c => (c.byte, c.argBytes, c.dataBytes, c.commit)) =
    [(0x10#8, 4, 0, none), (0x11#8, 0, 0, none), (0x12#8, 0, 21, none), (0x13#8, 0, 12, some .readCounters),
     (0x20#8, 0, 0, none), (0x21#8, 0, 0, none), (0x30#8, 13, 0, none), (0x31#8, 1, 0, none), (0x32#8, 1, 0, none),
     (0x33#8, 1, 0, none), (0x34#8, 0, 8, some .pop), (0x35#8, 1, 60, none), (0x40#8, 13, 0, none),
     (0x41#8, 2, 0, none), (0x42#8, 1, 67, none), (0x50#8, 0, 5, some .takeEvents)]) ∧
  ([ResultCode.ok, .badCommand, .badArg, .badConfig, .wrongState, .notSynced, .full, .empty, .locked, .notStaged,
      .duplicate, .committed].map ResultCode.byte =
    [0x00#8, 0x01#8, 0x02#8, 0x03#8, 0x04#8, 0x05#8, 0x06#8, 0x07#8, 0x08#8, 0x09#8, 0x0A#8, 0x0B#8]) ∧
  (∀ p : PortState, p.takesCommand = true ↔ p = .idle ∨ p = .command ∨ p = .arguments) ∧
  ∀ s : State, s.resetHeld = false →
    (s.port.state = .idle → exec .transactionStart s = .next
      { s with
        port :=
          { state := .command, bits := 0, shift := 0#8, command := none, args := [], needed := 0, snapshot := none
            shifted := 0, commit := none } }) ∧
    (s.port.state ≠ .idle → exec .transactionStart s = .next s) ∧
    (∀ b : Byte, s.port.state.takesCommand = true → (∀ c : PortCommand, c.byte ≠ b) →
      exec (.badCommand b) s = .next
        { s with
          port :=
            { state := .turnaround, bits := 0, shift := 0#8, command := some b, args := [], needed := 0
              snapshot := some [0x01#8], shifted := 0, commit := none } }) ∧
    (∀ c : PortCommand, exec (.badCommand c.byte) s = .next s)

/-- PCK_RISING_EDGE: ignored in IDLE, DESELECT WAIT and TRAILING; in COMMAND and ARGUMENTS a bit that does not complete
the byte is shifted in behind the others; TURNAROUND counts eight edges whatever PDI carries (R178, R181, Table 39). -/
def Obligations.ClockEdgeTakesOneBit : Prop :=
  ∀ (pdi : Bool) (s : State), s.resetHeld = false →
    ((s.port.state = .idle ∨ s.port.state = .deselectWait ∨ s.port.state = .trailing) →
      exec (.pckRisingEdge pdi) s = .next s) ∧
    ((s.port.state = .command ∨ s.port.state = .arguments) → s.port.bits < 7 → ∃ b : Byte,
      exec (.pckRisingEdge pdi) s = .next
        { s with port := { s.port with bits := s.port.bits + 1, shift := b, closedNow := [] } } ∧
      b.getLsbD 0 = pdi ∧ ∀ n < 7, b.getLsbD (n + 1) = s.port.shift.getLsbD n) ∧
    (s.port.state = .turnaround → s.port.bits < 7 →
      exec (.pckRisingEdge pdi) s = .next { s with port := { s.port with bits := s.port.bits + 1 } }) ∧
    (s.port.state = .turnaround → s.port.bits = 7 →
      exec (.pckRisingEdge pdi) s = .next { s with port := { s.port with bits := 0, state := .response } })

/-- The bytes of a command, clocked in bit by bit from the start of its transaction, do to the station exactly what the
command's row does at its command event: every command of the port, with every argument (R178, R179, R180, Table 47). -/
def Obligations.ClockedCommandIsItsRow : Prop :=
  ∀ (i : Instr) (c : PortCommand) (args : List Byte) (s : State), i.wellFormed = true → i.portRow = some (c, args) →
    s.resetHeld = false → s.port = { Port.idle with state := .command } →
    runCommands (clockedBytes (c.byte :: args)) s = exec i s

/-- The response is read out bit by bit: behind eight turnaround edges the n-th edge finds on PDO the n-th bit of the
snapshot, most significant bit of each byte first, and behind the last one the port is TRAILING; nothing but the port
changes, whatever PDI carries (R178, R181). -/
def Obligations.ResponseIsShiftedOut : Prop :=
  (∀ s : State,
    (s.resetHeld = true ∨ s.port.state = .idle ∨ s.port.state = .deselectWait → s.pdo = none) ∧
    (s.resetHeld = false → s.port.state = .command ∨ s.port.state = .arguments ∨ s.port.state = .turnaround ∨
      s.port.state = .trailing → s.pdo = some false)) ∧
  ∀ (s : State) (bytes : List Byte) (pdi : List Bool), s.resetHeld = false → bytes ≠ [] →
    s.port.state = .turnaround → s.port.bits = 0 → s.port.shifted = 0 → s.port.snapshot = some bytes →
    (8 ≤ pdi.length → pdi.length < 8 + 8 * bytes.length → ∃ t : State,
      runCommands (pdi.map .pckRisingEdge) s = .next t ∧ t = { s with port := t.port } ∧ t.port.state = .response ∧
      t.port.commit = s.port.commit ∧ t.pdo = (bytes.flatMap byteBits)[pdi.length - 8]?) ∧
    (8 + 8 * bytes.length ≤ pdi.length → ∃ t : State,
      runCommands (pdi.map .pckRisingEdge) s = .next t ∧ t = { s with port := t.port } ∧ t.port.state = .trailing ∧
      t.port.commit = s.port.commit ∧ t.port.snapshot = some bytes ∧ t.pdo = some false)

/-- TRANSACTION_END by port state: nothing, PORT_ABORT, or the pending commit; the port is IDLE with empty transaction
state in every case (R96, R175, R177, R178, R182, R190). -/
def Obligations.TransactionEndCommitsOrAborts : Prop :=
  ∀ s : State, s.resetHeld = false →
    ((s.port.state = .idle ∨ s.port.state = .deselectWait ∨ (s.port.state = .command ∧ s.port.bits = 0) ∨
        (s.port.commit = none ∧
          (s.port.state = .turnaround ∨ s.port.state = .response ∨ s.port.state = .trailing))) →
      exec .transactionEnd s = .next { s with port := Port.idle }) ∧
    (((s.port.state = .command ∧ s.port.bits ≠ 0) ∨ s.port.state = .arguments ∨
        (s.port.commit ≠ none ∧ (s.port.state = .turnaround ∨ s.port.state = .response))) →
      exec .transactionEnd s = .next
        { s with
          port := Port.idle
          latches := { s.latches with latched := s.latches.latched ||| 0x01#8, report := none } }) ∧
    (s.port.state = .trailing → s.port.commit = some .readCounters →
      exec .transactionEnd s = .next
        { s with
          port := Port.idle
          counters :=
            { good := 0#16, bad := 0#16, foreign := 0#16, sent := 0#16, readBack := 0#16, conflicts := 0#16 } }) ∧
    (∀ r, s.port.state = .trailing → s.port.commit = some .takeEvents → s.latches.report = some r → ∃ t : State,
      exec .transactionEnd s = .next t ∧ t = { s with port := Port.idle, latches := t.latches } ∧
      t.latches.report = none ∧
      (∀ b, t.latches.latched.getLsbD b =
        (s.latches.latched.getLsbD b && !(r.events.getLsbD b && !r.againEvents.getLsbD b))) ∧
      (∀ b, t.latches.joined.getLsbD b =
        (s.latches.joined.getLsbD b && !(r.joined.getLsbD b && !r.againJoined.getLsbD b))) ∧
      (∀ b, t.latches.lost.getLsbD b =
        (s.latches.lost.getLsbD b && !(r.lost.getLsbD b && !r.againLost.getLsbD b)))) ∧
    (∀ i rest, s.port.state = .trailing → s.port.commit = some .pop → s.completions = i :: rest → ∃ t : State,
      exec .transactionEnd s = .next t ∧
      t = { s with
            port := Port.idle, completions := rest, entries := t.entries, frames := t.frames
            channels := t.channels } ∧
      t.entry i = Entry.blank ∧ (∀ j, j ≠ i → t.entry j = s.entry j))

/-! ### The local port: commands -/

/-- CONFIGURE: refused LOCKED while the configuration is locked, and BAD_ARG where a value is out of its range;
otherwise all five values are replaced, the round timer restarts at round 0, slot 0, beat 0 with them, and the HELD
entries that no longer fit return to FREE with their staged sets (R16, R83, R186, R187). That the port in IDLE takes
the row (log entry 11), and that argument bytes of another number than four are refused BAD_ARG (log entry 12), is the
model's choice. -/
def Obligations.ConfigureReplacesSettings : Prop :=
  ∀ (args : List Byte) (s : State), s.Ready →
    (s.locked = true → exec (.configure args) s = .next (s.refused .configure args .locked)) ∧
    (s.locked = false → decodeSettings args = none →
      exec (.configure args) s = .next (s.refused .configure args .badArg)) ∧
    (∀ c, s.locked = false → decodeSettings args = some c → ∃ t : State, exec (.configure args) s = .next t ∧
      t = { s with
            settings := c
            timer :=
              { s.timer with
                round := 0#16, slot := 0, beat := 0, correction := none, rate := c.rate, size := c.size
                boundary := none, opening := false, ownOpening := false }
            frames := t.frames, entries := t.entries, channels := t.channels
            port := PortCommand.configure.answer args [0x00#8] none } ∧
      t.frames.good = 0#16 ∧ t.frames.foreign = 0#16 ∧ t.frames.mark = false ∧ t.frames.view = 0#16 ∧
      (∀ i, (s.entry i).state = .held →
        (∃ k : Station, hasStation (s.entry i).record.participants k = true ∧ c.size ≤ k.val) →
        t.entry i = Entry.blank ∧ ∀ k, (t.channel k).isStaged i = false) ∧
      (∀ i, ((s.entry i).state ≠ .held ∨
          ∀ k : Station, hasStation (s.entry i).record.participants k = true → k.val < c.size) →
        t.entry i = s.entry i ∧ ∀ k, (t.channel k).isStaged i = (s.channel k).isStaged i))

/-- JOIN: WRONG_STATE outside OFFLINE, BAD_CONFIG for a station number of N or above; otherwise the configuration
locks and the station listens, with STATE_CHANGE raised, line time as it stood, and every entry as it stood, none
being pending in OFFLINE (R38, R39, R59). The port in IDLE takes the row by the model's choice (log entry 11), and that a
correction still pending stays pending in LISTEN is its choice too (log entry 37). -/
def Obligations.JoinEntersListen : Prop :=
  ∀ s : State, s.Ready →
    (s.line.state ≠ .offline → exec .join s = .next (s.refused .join [] .wrongState)) ∧
    (s.line.state = .offline → s.settings.size ≤ s.timer.station.val →
      exec .join s = .next (s.refused .join [] .badConfig)) ∧
    (s.line.state = .offline → s.timer.station.val < s.settings.size → s.PendingOnlySynced → ∃ t : State,
      exec .join s = .next t ∧
      t = { s with
            locked := true, line := t.line, latches := t.latches, frames := t.frames, peers := t.peers
            channels := t.channels, port := PortCommand.join.answer [] [0x00#8] none } ∧
      t.line.state = .listen ∧
      t.line.listen = some ((2 * s.settings.size + s.timer.station.val) * 512) ∧
      t.latches.latched = s.latches.latched ||| 0x80#8)

/-- LEAVE: WRONG_STATE in OFFLINE; in ACTIVE it sets leave pending alone; in any other state the station is OFFLINE at
once, and every pending entry closes ABANDONED with reason LEFT (R54, R57, R59, R72, R99). The port in IDLE takes the
row by the model's choice (log entry 11). -/
def Obligations.LeaveLeavesTheRound : Prop :=
  ∀ s : State, s.Ready →
    (s.line.state = .offline → exec .leave s = .next (s.refused .leave [] .wrongState)) ∧
    (s.line.state = .active →
      exec .leave s = .next (State.answered { s with line := { s.line with leavePending := true } } .leave [] [])) ∧
    (s.line.state ≠ .offline → s.line.state ≠ .active → ∃ t : State, exec .leave s = .next t ∧
      t = { s with
            line := t.line, latches := t.latches, frames := t.frames, peers := PeerTable.cleared
            channels := t.channels, entries := t.entries, completions := t.completions
            port := PortCommand.leave.answer [] [0x00#8] none } ∧
      t.line.state = .offline ∧ t.line.listen = none ∧ t.line.leavePending = false ∧
      t.latches.latched = s.latches.latched ||| 0x80#8 ∧ t.frames.transmitting = s.frames.transmitting ∧
      (∀ i, (s.entry i).pending = true → (t.entry i).state = .done ∧ (t.entry i).outcome = some .abandoned ∧
        (t.entry i).reason = some .left ∧ i ∈ t.completions) ∧
      (∀ i, (s.entry i).pending = false → t.entry i = s.entry i))

/-- LOAD: the tests of R81 in their order, and the entry that takes a legal record is HELD with every runtime field
absent, none or empty; nothing but that entry and the port changes (R76, R77, R81, R194). That the port in IDLE takes
the row (log entry 11), and that a record of another length than twelve bytes is refused BAD_ARG (log entry 12), is
the model's choice. -/
def Obligations.LoadTakesLegalRecord : Prop :=
  ∀ (index : Byte) (record : List Byte) (s : State), s.Ready →
    (16 ≤ index.toNat → exec (.load index record) s = .next (s.refused .load (index :: record) .badArg)) ∧
    (∀ i : EntryIndex, index.toNat = i.val →
      ((s.entry i).state ≠ .free →
        exec (.load index record) s = .next (s.refused .load (index :: record) .wrongState)) ∧
      ((s.entry i).state = .free →
        (∀ r, decodeRecord record = some r → ¬r.Legal s.settings.size s.timer.station i) →
        exec (.load index record) s = .next (s.refused .load (index :: record) .badArg)) ∧
      (∀ r, (s.entry i).state = .free → decodeRecord record = some r → r.Legal s.settings.size s.timer.station i →
        ((∃ j, j ≠ i ∧ (s.entry j).state ≠ .free ∧ (s.entry j).record.number = r.number ∧
            (s.entry j).record.epoch = r.epoch) →
          exec (.load index record) s = .next (s.refused .load (index :: record) .duplicate)) ∧
        ((∀ j, j ≠ i → (s.entry j).state ≠ .free → (s.entry j).record.number = r.number →
            (s.entry j).record.epoch ≠ r.epoch) →
          exec (.load index record) s = .next
            (State.answered { s with entries := s.entries.set i { Entry.blank with state := .held, record := r } }
              .load (index :: record) []))))

/-- ARM: the tests of R84 in their order; the armed entry takes the round in progress as its arm round, its arrival
records and its channel count start empty, and an IMMEDIATE entry of a participant arrives at once, behind the other
uncarried entries (R28, R84, R102, R104). The round in progress is the closing round until a boundary's table reaction
is taken (R86; log entry 4). The port in IDLE takes the row by the model's choice (log entry 11). -/
def Obligations.ArmStartsRendezvous : Prop :=
  (∀ (c : Channel) (i : EntryIndex), c.isStaged i = true ↔ ∃ p ∈ c.staged, p.tag = i) ∧
  (∀ (s : State) (i : EntryIndex), s.fullyStaged i = true ↔
    ∀ k, hasChannel (s.entry i).record.channels k = true → (s.channel k).isStaged i = true) ∧
  ∀ (index : Byte) (s : State), s.Ready →
    (16 ≤ index.toNat → exec (.arm index) s = .next (s.refused .arm [index] .badArg)) ∧
    (∀ i : EntryIndex, index.toNat = i.val →
      ((s.entry i).state ≠ .held → exec (.arm index) s = .next (s.refused .arm [index] .wrongState)) ∧
      ((s.entry i).state = .held → (s.line.state = .offline ∨ s.line.state = .listen ∨ s.line.state = .coldstart) →
        exec (.arm index) s = .next (s.refused .arm [index] .notSynced)) ∧
      ((s.entry i).state = .held →
        (s.line.state = .integrating ∨ s.line.state = .active ∨ s.line.state = .passive) →
        ((∃ k, hasChannel (s.entry i).record.channels k = true ∧ (s.channel k).isStaged i = false) →
          exec (.arm index) s = .next (s.refused .arm [index] .notStaged)) ∧
        ((∀ k, hasChannel (s.entry i).record.channels k = true → (s.channel k).isStaged i = true) → ∃ now : Bool,
          (now = true ↔ (s.entry i).record.condition = .immediate ∧ s.participates (s.entry i) = true) ∧
          exec (.arm index) s = .next
            (State.answered
              { s with
                entries := s.entries.set i
                  { s.entry i with
                    state := .armed, armRound := some s.timer.round, arrived := now
                    records := Vector.replicate 16 none, recordedLead := none, channelCount := 0#8 }
                frames :=
                  { s.frames with
                    announce :=
                      { s.frames.announce with
                        uncarried := s.frames.announce.uncarried ++ (if now = true then [i] else []) } } }
              .arm [index] []))))

/-- ARRIVE: the tests of R105 in their order; when every test passes, the local arrival has occurred and the index
stands at the end of the uncarried part; a refused ARRIVE changes nothing (R103, R105). The port in IDLE takes the row
by the model's choice (log entry 11). -/
def Obligations.ArriveIsTheLocalArrival : Prop :=
  ∀ (index : Byte) (s : State), s.Ready →
    (16 ≤ index.toNat → exec (.arrive index) s = .next (s.refused .arrive [index] .badArg)) ∧
    (∀ i : EntryIndex, index.toNat = i.val →
      ((s.entry i).state ≠ .armed → exec (.arrive index) s = .next (s.refused .arrive [index] .wrongState)) ∧
      ((s.entry i).state = .armed → (s.entry i).record.condition ≠ .command →
        exec (.arrive index) s = .next (s.refused .arrive [index] .badArg)) ∧
      ((s.entry i).state = .armed → (s.entry i).record.condition = .command → (s.entry i).arrived = true →
        exec (.arrive index) s = .next (s.refused .arrive [index] .duplicate)) ∧
      ((s.entry i).state = .armed → (s.entry i).record.condition = .command → (s.entry i).arrived = false →
        exec (.arrive index) s = .next
          (State.answered
            { s with
              entries := s.entries.set i { s.entry i with arrived := true }
              frames :=
                { s.frames with
                  announce :=
                    { s.frames.announce with uncarried := s.frames.announce.uncarried ++ [i] } } }
            .arrive [index] [])))

/-- CANCEL by the entry's state: WRONG_STATE for FREE and, as a rule, for DONE, back to FREE with its staged sets
discarded for HELD, COMMITTED for a pending entry whose own arrival is committed, and otherwise closed ABANDONED with
reason CANCELLED, at the tail of the completion queue (R76, R87, R88, R90, R91, R159). A committed entry that the
boundary or the start of its transmission has closed at this same instant is refused COMMITTED by R89, where R88 alone
would give WRONG_STATE: that the model follows R89 is its choice (log entry 33). The port in IDLE takes the row by the
model's choice (log entry 11). -/
def Obligations.CancelWithdrawsEntry : Prop :=
  (∀ e : Entry, e.pending = true ↔ e.state = .armed ∨ e.state = .complete) ∧
  (∀ q : AnnounceQueue, q.all = q.uncarried ++ q.carried) ∧
  ∀ (index : Byte) (s : State), s.Ready →
    (16 ≤ index.toNat → exec (.cancel index) s = .next (s.refused .cancel [index] .badArg)) ∧
    (∀ i : EntryIndex, index.toNat = i.val →
      ((s.entry i).state = .free → exec (.cancel index) s = .next (s.refused .cancel [index] .wrongState)) ∧
      (∀ committed : Bool,
        (committed = true ↔ s.participates (s.entry i) = true ∧
          ((s.entry i).ownAnnounce ≠ none ∨ ∃ f, s.frames.assembled = some f ∧ i ∈ f.carriage)) →
        (s.entry i).state = .done →
        (committed = false ∨ ¬s.ClosedAtInstant i →
          exec (.cancel index) s = .next (s.refused .cancel [index] .wrongState)) ∧
        (committed = true → s.ClosedAtInstant i →
          exec (.cancel index) s = .next (s.refused .cancel [index] .committed))) ∧
      ((s.entry i).pending = true → s.participates (s.entry i) = true →
        ((s.entry i).ownAnnounce ≠ none ∨ ∃ f, s.frames.assembled = some f ∧ i ∈ f.carriage) →
        exec (.cancel index) s = .next (s.refused .cancel [index] .committed)) ∧
      ((s.entry i).state = .held ∨
          ((s.entry i).pending = true ∧
            (s.participates (s.entry i) = false ∨
              ((s.entry i).ownAnnounce = none ∧ ∀ f, s.frames.assembled = some f → i ∉ f.carriage))) →
        ∃ t : State, exec (.cancel index) s = .next t ∧
          t = { s with
                entries := t.entries, frames := t.frames, channels := t.channels, completions := t.completions
                port := PortCommand.cancel.answer [index] [0x00#8] none } ∧
          (∀ j, j ≠ i → t.entry j = s.entry j) ∧ i ∉ t.frames.announce.all ∧
          (∀ k, (t.channel k).staged = (s.channel k).staged.filter fun p => decide (p.tag ≠ i)) ∧
          ((s.entry i).state = .held → t.entry i = Entry.blank ∧ t.completions = s.completions) ∧
          ((s.entry i).pending = true →
            t.entry i =
              { s.entry i with state := .done, outcome := some .abandoned, reason := some .cancelled } ∧
            t.completions = s.completions ++ [i])))

/-- POP: refused EMPTY on an empty queue; otherwise it answers the completion record of the head, eight bytes, and
changes neither the queue nor the entry (R95, R195). The port in IDLE takes the row by the model's choice (log entry
11). -/
def Obligations.PopReportsHead : Prop :=
  ([none, some .fired, some .firedLate, some .missed, some .expired, some .abandoned].map outcomeCode =
    [0#4, 1#4, 2#4, 3#4, 4#4, 5#4]) ∧
  ([none, some .cancelled, some .peerLost, some .resync, some .left, some .notStaged].map reasonCode =
    [0#4, 1#4, 2#4, 3#4, 4#4, 5#4]) ∧
  ∀ s : State, s.Ready →
    (s.completions = [] → exec .pop s = .next (s.refused .pop [] .empty)) ∧
    (∀ i rest, s.completions = i :: rest → ∃ data : List Byte, exec .pop s = .next (s.answered .pop [] data) ∧
      data.length = 8 ∧ data[0]? = some (BitVec.ofNat 8 i.val) ∧
      data[1]? = some ((s.entry i).record.number.setWidth 8) ∧ data[2]? = some (s.entry i).record.epoch ∧
      data[3]? = some (outcomeCode (s.entry i).outcome ++ reasonCode (s.entry i).reason) ∧
      data[4]? = some (((s.entry i).actualFire.getD 0#16).extractLsb' 8 8) ∧
      data[5]? = some (((s.entry i).actualFire.getD 0#16).extractLsb' 0 8) ∧
      data[6]? = some (s.entry i).superseded ∧
      data[7]? = some (bitOf (s.entry i).chainTaken ++ bitOf (s.entry i).actualFire.isSome ++ 0#6))

/-- READ STATUS, READ COUNTERS, READ ENTRY and READ CHANNEL answer every byte of their data as Tables 52 to 55 lay it
out and change nothing; READ COUNTERS alone has a commit. An index of 16 or above and a channel of 8 or above are
refused BAD_ARG, and a FREE entry reads 0 in every byte (R97, R165, R188, R189, R195). The port in IDLE takes the rows
by the model's choice (log entry 11). -/
def Obligations.ReadsChangeNothing : Prop :=
  ([LineState.offline, .listen, .coldstart, .integrating, .active, .passive].map LineState.code =
    [0#3, 1#3, 2#3, 3#3, 4#3, 5#3]) ∧
  ([EntryState.free, .held, .armed, .complete, .done].map EntryState.code = [0#3, 1#3, 2#3, 3#3, 4#3]) ∧
  ([RunState.idle, .waiting, .running, .finished].map RunState.code = [0#2, 1#2, 2#2, 3#2]) ∧
  ([none, some .fired, some .firedLate, some .missed, some .expired, some .abandoned].map outcomeCode =
    [0#4, 1#4, 2#4, 3#4, 4#4, 5#4]) ∧
  ([none, some .cancelled, some .peerLost, some .resync, some .left, some .notStaged].map reasonCode =
    [0#4, 1#4, 2#4, 3#4, 4#4, 5#4]) ∧
  ∀ s : State, s.Ready → ∀ high low : BitVec 16 → Byte, high = (·.extractLsb' 8 8) → low = (·.extractLsb' 0 8) →
    exec .readStatus s = .next
      (s.answered .readStatus []
        ([bitOf s.line.leavePending ++ bitOf s.line.alone ++ bitOf (decide (s.line.excluded = 1)) ++ bitOf s.locked ++
            0#1 ++ s.line.state.code,
          BitVec.ofNat 8 s.timer.station.val, high s.timer.round, low s.timer.round, high s.frames.view,
          low s.frames.view, high s.presentSet, low s.presentSet] ++ encodeSettings s.settings ++
         [0#4 ++ bitOf (s.trigger 3).lastEdge.isSome ++ bitOf (s.trigger 2).lastEdge.isSome ++
            bitOf (s.trigger 1).lastEdge.isSome ++ bitOf (s.trigger 0).lastEdge.isSome,
          high ((s.trigger 0).lastEdge.getD 0#16), low ((s.trigger 0).lastEdge.getD 0#16),
          high ((s.trigger 1).lastEdge.getD 0#16), low ((s.trigger 1).lastEdge.getD 0#16),
          high ((s.trigger 2).lastEdge.getD 0#16), low ((s.trigger 2).lastEdge.getD 0#16),
          high ((s.trigger 3).lastEdge.getD 0#16), low ((s.trigger 3).lastEdge.getD 0#16)])) ∧
    (∀ k, hasStation s.presentSet k = true ↔
      k.val < s.settings.size ∧ k ≠ s.timer.station ∧ (s.peer k).present = true) ∧
    exec .readCounters s = .next
      (s.answered .readCounters []
        [high s.counters.good, low s.counters.good, high s.counters.bad, low s.counters.bad, high s.counters.foreign,
         low s.counters.foreign, high s.counters.sent, low s.counters.sent, high s.counters.readBack,
         low s.counters.readBack, high s.counters.conflicts, low s.counters.conflicts]) ∧
    (∀ index : Byte, 16 ≤ index.toNat →
      exec (.readEntry index) s = .next (s.refused .readEntry [index] .badArg)) ∧
    (∀ (index : Byte) (i : EntryIndex) (e : Entry), index.toNat = i.val → e = s.entry i →
      ∃ (data : List Byte) (records : StationSet),
      exec (.readEntry index) s = .next (s.answered .readEntry [index] data) ∧ data.length = 60 ∧
      data.take 2 =
        [bitOf (decide (i ∈ s.frames.announce.uncarried ++ s.frames.announce.carried)) ++
            bitOf (decide (∃ f ∈ s.frames.assembled, i ∈ f.carriage)) ++ bitOf e.arrived ++ bitOf e.late ++
            bitOf e.chainTaken ++ e.state.code,
         bitOf e.armRound.isSome ++ bitOf e.ownAnnounce.isSome ++ bitOf e.recordedLead.isSome ++
            bitOf e.fireRound.isSome ++ bitOf e.actualFire.isSome ++ 0#3] ∧
      (data.drop 2).take 12 = encodeRecord e.record ∧
      (data.drop 14).take 14 =
        [high (e.armRound.getD 0#16), low (e.armRound.getD 0#16), high (e.ownAnnounce.getD 0#16),
         low (e.ownAnnounce.getD 0#16), high (e.fireRound.getD 0#16), low (e.fireRound.getD 0#16),
         high (e.actualFire.getD 0#16), low (e.actualFire.getD 0#16), 0#4 ++ e.recordedLead.getD 0#4,
         e.channelCount, outcomeCode e.outcome ++ reasonCode e.reason, e.superseded, high records, low records] ∧
      (∀ k : Station, hasStation records k = e.records[k].isSome ∧
        data[28 + 2 * k.val]? = some (high (e.records[k].getD 0#16)) ∧
        data[29 + 2 * k.val]? = some (low (e.records[k].getD 0#16))) ∧
      (e = Entry.blank → i ∉ s.frames.announce.all → (∀ f ∈ s.frames.assembled, i ∉ f.carriage) → data = List.replicate 60 0#8)) ∧
    (∀ channel : Byte, 8 ≤ channel.toNat →
      exec (.readChannel channel) s = .next (s.refused .readChannel [channel] .badArg)) ∧
    (∀ (channel : Byte) (k : ChannelIndex) (c : Channel) (place : Nat), channel.toNat = k.val → c = s.channel k →
      place = (if c.run = .waiting then c.phaseRemaining else if c.run = .running then c.position else 0) →
      ∃ data : List Byte,
      exec (.readChannel channel) s = .next (s.answered .readChannel [channel] data) ∧ data.length = 67 ∧
      data.take 11 = encodeSet c.active ∧
      (data.drop 11).take 8 =
        [c.run.code ++ bitOf c.forced ++ bitOf c.pin ++ 0#1 ++ BitVec.ofNat 3 c.staged.length,
         BitVec.ofNat 8 (place / 65536), BitVec.ofNat 8 (place / 256), BitVec.ofNat 8 place,
         BitVec.ofNat 8 (c.periodsRemaining / 256), BitVec.ofNat 8 c.periodsRemaining, high c.periodEnds,
         low c.periodEnds] ∧
      ∀ n < 4,
        (∀ p, c.staged[n]? = some p →
          (data.drop (19 + 12 * n)).take 12 = BitVec.ofNat 8 p.tag.val :: encodeSet p.set) ∧
        (c.staged[n]? = none → (data.drop (19 + 12 * n)).take 12 = List.replicate 12 0#8))

/-- STAGE: the tests of R157 in their order; a pair tagged with the entry takes the new set in its place, and
otherwise a new pair joins at the tail; nothing but that queue and the port changes (R146, R157, R194). That the port
in IDLE takes the row (log entry 11), and that a set of another length than eleven bytes is refused BAD_ARG (log entry
12), is the model's choice. -/
def Obligations.StageQueuesSet : Prop :=
  ∀ (channel index : Byte) (bytes : List Byte) (s : State), s.Ready →
    ((8 ≤ channel.toNat ∨ 16 ≤ index.toNat ∨ decodeSet bytes = none) →
      exec (.stage channel index bytes) s = .next (s.refused .stage (channel :: index :: bytes) .badArg)) ∧
    (∀ (k : ChannelIndex) (i : EntryIndex) (c : ChannelSet), channel.toNat = k.val → index.toNat = i.val →
      decodeSet bytes = some c →
      ((s.entry i).pending = true →
        exec (.stage channel index bytes) s = .next (s.refused .stage (channel :: index :: bytes) .locked)) ∧
      ((s.entry i).state = .free ∨ (s.entry i).state = .done →
        exec (.stage channel index bytes) s = .next (s.refused .stage (channel :: index :: bytes) .wrongState)) ∧
      ((s.entry i).state = .held → hasChannel (s.entry i).record.channels k = false →
        exec (.stage channel index bytes) s = .next (s.refused .stage (channel :: index :: bytes) .badArg)) ∧
      ((s.entry i).state = .held → hasChannel (s.entry i).record.channels k = true →
        ((∀ p ∈ (s.channel k).staged, p.tag ≠ i) → 4 ≤ (s.channel k).staged.length →
          exec (.stage channel index bytes) s = .next (s.refused .stage (channel :: index :: bytes) .full)) ∧
        ((∃ p ∈ (s.channel k).staged, p.tag = i) → ∃ l : List StagedPair,
          exec (.stage channel index bytes) s = .next
            (State.answered { s with channels := s.channels.set k { s.channel k with staged := l } } .stage
              (channel :: index :: bytes) []) ∧
          l.map StagedPair.tag = (s.channel k).staged.map StagedPair.tag ∧
          (∀ p ∈ l, p.tag = i → p.set = c) ∧ (∀ p, p.tag ≠ i → (p ∈ l ↔ p ∈ (s.channel k).staged))) ∧
        ((∀ p ∈ (s.channel k).staged, p.tag ≠ i) → (s.channel k).staged.length < 4 →
          exec (.stage channel index bytes) s = .next
            (State.answered
              { s with
                channels := s.channels.set k
                  { s.channel k with staged := (s.channel k).staged ++ [{ tag := i, set := c }] } } .stage
              (channel :: index :: bytes) []))))

/-- UNSTAGE: the tests of R158 in their order; the pair is removed and the pairs behind it close up, and nothing but
that queue and the port changes (R158). The port in IDLE takes the row by the model's choice (log entry 11). -/
def Obligations.UnstageRemovesPair : Prop :=
  ∀ (channel index : Byte) (s : State), s.Ready →
    ((8 ≤ channel.toNat ∨ 16 ≤ index.toNat) →
      exec (.unstage channel index) s = .next (s.refused .unstage [channel, index] .badArg)) ∧
    (∀ (k : ChannelIndex) (i : EntryIndex), channel.toNat = k.val → index.toNat = i.val →
      ((∀ p ∈ (s.channel k).staged, p.tag ≠ i) →
        exec (.unstage channel index) s = .next (s.refused .unstage [channel, index] .empty)) ∧
      ((∃ p ∈ (s.channel k).staged, p.tag = i) →
        ((s.entry i).state = .armed ∨ (s.entry i).state = .complete →
          exec (.unstage channel index) s = .next (s.refused .unstage [channel, index] .locked)) ∧
        ((s.entry i).state ≠ .armed → (s.entry i).state ≠ .complete →
          exec (.unstage channel index) s = .next
            (State.answered
              { s with
                channels := s.channels.set k
                  { s.channel k with staged := (s.channel k).staged.filter fun p => decide (p.tag ≠ i) } }
              .unstage [channel, index] []))))

/-- TAKE EVENTS: it answers the three sets, removes nothing, and opens the report that its commit acts on (R174); the port in
IDLE takes the row by the model's choice (log entry 11). In every state every raise is recorded in the sets, and, while a
report is open, in the re-raised sets besides: that of one event, and that of PEER_JOINED and PEER_LOST with the stations
they name (R70, R172, R174). ATTN is high exactly while RESETN is high and the completion queue holds an index or a latched
event stands in the attention mask (R94, R173). -/
def Obligations.TakeEventsOpensReport : Prop :=
  (∀ s : State, s.Ready →
    exec .takeEvents s = .next
      (State.answered
        { s with
          latches :=
            { s.latches with
              report := some
                { events := s.latches.latched, joined := s.latches.joined, lost := s.latches.lost
                  againEvents := 0#8, againJoined := 0#16, againLost := 0#16 } } }
        .takeEvents []
        [s.latches.latched, s.latches.joined.extractLsb' 8 8, s.latches.joined.extractLsb' 0 8,
         s.latches.lost.extractLsb' 8 8, s.latches.lost.extractLsb' 0 8])) ∧
  (∀ (s : State) (e : Event),
    s.raise e =
      { s with
        latches :=
          { s.latches with
            latched := s.latches.latched ||| e.bit
            report := s.latches.report.map fun r => { r with againEvents := r.againEvents ||| e.bit } } }) ∧
  ([Event.stateChange, .peerJoined, .peerLost, .alone, .yielded, .epochConflict, .leadConflict, .portAbort].map Event.bit =
    [0x80#8, 0x40#8, 0x20#8, 0x10#8, 0x08#8, 0x04#8, 0x02#8, 0x01#8]) ∧
  (∀ (s : State) (joined lost : StationSet) (events : EventSet),
    events = (if joined = 0#16 then 0#8 else 0x40#8) ||| (if lost = 0#16 then 0#8 else 0x20#8) →
    s.raisePeers joined lost =
      { s with
        latches :=
          { latched := s.latches.latched ||| events, joined := s.latches.joined ||| joined
            lost := s.latches.lost ||| lost
            report := s.latches.report.map fun r =>
              { r with
                againEvents := r.againEvents ||| events, againJoined := r.againJoined ||| joined
                againLost := r.againLost ||| lost } } }) ∧
  ∀ s : State, s.attn = true ↔
    (s.resetHeld = false ∧
      (s.completions ≠ [] ∨
        ∃ b : Fin 8, s.latches.latched.getLsbD b.val = true ∧ s.settings.mask.getLsbD b.val = true))

/-- The forms of CONFIGURE, LOAD and STAGE arguments: bytes are accepted as a configuration record, a loaded record or a
channel set exactly when they are the layout of one whose values lie in their ranges (R146, R186, R194, Tables 49 to
51). The layouts and their codes are written out byte by byte, and so are the ranges of a channel set by its mode (Table
31) and the bits of a set of stations and of channels (R194). -/
def Obligations.ArgumentLayoutsAreExact : Prop :=
  ([LineRate.mbit1, .mbit2p5, .mbit5, .mbit10].map codeOfRate = [0#3, 1#3, 2#3, 3#3]) ∧
  ([PulseMode.off, .level, .periodic, .burst].map codeOfMode = [0#2, 1#2, 2#2, 3#2]) ∧
  ([false, true].map bitOf = [0#1, 1#1]) ∧
  (∀ (set : StationSet) (k : Station), hasStation set k = set.getLsbD k.val) ∧
  (∀ k : Station, stationBit k = 1#16 <<< k.val) ∧
  (∀ (set : ChannelMask) (k : ChannelIndex), hasChannel set k = set.getLsbD k.val) ∧
  (∀ c : ChannelSet, legalSet c = true ↔
    (c.mode ≠ .level → c.level = false) ∧
    (c.mode = .off ∨ c.mode = .level → c.period = 0#24 ∧ c.high = 0#24 ∧ c.phase = 0#16 ∧ c.count = 0#16) ∧
    (c.mode = .periodic ∨ c.mode = .burst → 2 ≤ c.period.toNat ∧ c.high.toNat ≤ c.period.toNat) ∧
    (c.mode = .periodic → c.count = 0#16) ∧ (c.mode = .burst → 1 ≤ c.count.toNat)) ∧
  (∀ c : Settings, encodeSettings c =
    [0#3 ++ BitVec.ofNat 5 c.size, 0#5 ++ codeOfRate c.rate, BitVec.ofNat 4 c.lossLimit ++ c.defaultLead, c.mask]) ∧
  (∀ r : LoadedRecord, encodeRecord r =
    [0#2 ++ r.number, r.epoch, r.participants.extractLsb' 8 8, r.participants.extractLsb' 0 8] ++
      encodeCondition r.condition ++
      [0#3 ++ bitOf (decide (r.late = .apply)) ++ r.lead, 0#4 ++ r.deadline.extractLsb' 8 4,
       r.deadline.extractLsb' 0 8, r.channels, 0#6 ++ r.markers, encodeChain r.chain]) ∧
  ([ArrivalCondition.none, .immediate, .command].map encodeCondition =
    [[0x00#8, 0x00#8], [0x20#8, 0x00#8], [0x40#8, 0x00#8]]) ∧
  (∀ k : InputIndex, [EdgeChoice.rising, .falling, .either].map (fun e => encodeCondition (.trigger k e)) =
    [[BitVec.ofNat 8 (0x60 + k.val), 0x00#8], [BitVec.ofNat 8 (0x68 + k.val), 0x00#8],
     [BitVec.ofNat 8 (0x70 + k.val), 0x00#8]]) ∧
  (∀ (k : ChannelIndex) (n : Byte), encodeCondition (.channel k n) = [BitVec.ofNat 8 (0x80 + k.val), n]) ∧
  (encodeChain none = 0x00#8 ∧ ∀ i : EntryIndex, encodeChain (some i) = BitVec.ofNat 8 (0x80 + i.val)) ∧
  (∀ c : ChannelSet, encodeSet c =
    [codeOfMode c.mode ++ bitOf c.level ++ bitOf c.invert ++ bitOf c.guard ++ bitOf c.safe ++ 0#2,
     c.period.extractLsb' 16 8, c.period.extractLsb' 8 8, c.period.extractLsb' 0 8,
     c.high.extractLsb' 16 8, c.high.extractLsb' 8 8, c.high.extractLsb' 0 8,
     c.phase.extractLsb' 8 8, c.phase.extractLsb' 0 8, c.count.extractLsb' 8 8, c.count.extractLsb' 0 8]) ∧
  (∀ (bytes : List Byte) (c : Settings), decodeSettings bytes = some c ↔
    (bytes = encodeSettings c ∧ 2 ≤ c.size ∧ c.size ≤ 16 ∧ 2 ≤ c.lossLimit ∧ c.lossLimit ≤ 7 ∧
      c.defaultLead ≠ 0#4)) ∧
  (∀ (bytes : List Byte) (r : LoadedRecord), decodeRecord bytes = some r ↔
    (bytes = encodeRecord r ∧ ∀ k, r.condition ≠ .channel k 0#8)) ∧
  (∀ (bytes : List Byte) (c : ChannelSet), decodeSet bytes = some c ↔
    (bytes = encodeSet c ∧ legalSet c = true))

/-! ### Invariants that every step keeps -/

/-- Every step keeps the completion queue equal to the DONE entries, each once (R92). -/
def Obligations.StepKeepsCompletions : Prop := KeptByStep State.CompletionsMatch

/-- Every step keeps rendezvous number and epoch unique among the entries outside FREE (R82). -/
def Obligations.StepKeepsNamesUnique : Prop := KeptByStep State.NamesUnique

/-- No entry is ARMED or COMPLETE while the line controller is OFFLINE, LISTEN or COLDSTART (R100): it holds at reset,
and every step keeps it. -/
def Obligations.StepKeepsPendingSynced : Prop := State.reset.PendingOnlySynced ∧ KeptByStep State.PendingOnlySynced

/-- Every step keeps the announce queue equal to the arrived, pending participant entries, each once (R28), where the
entries' conditions fit their participants (R77), which it keeps as well. -/
def Obligations.StepKeepsAnnounceQueue : Prop := KeptByStep fun s => s.ConditionsFit ∧ s.AnnounceMatches

/-- Every step keeps the staged queues within R156, and every pending entry staged on each channel of its mask (R85). -/
def Obligations.StepKeepsStagedSets : Prop := KeptByStep State.StagedMatch

/-- Every step keeps every channel's runtime state, forced state and pin what R148, R163 and Table 32 give, and a low
marker without remaining length (R170). -/
def Obligations.StepKeepsOutputs : Prop := KeptByStep State.OutputsFit

/-- Every step keeps the configuration in its ranges, the round timer in step with it, an unlocked station OFFLINE,
and a joined station's number below N (R2, R9, R38, R185). -/
def Obligations.StepKeepsConfiguration : Prop := KeptByStep State.ConfigFits

/-- Every step keeps the peer table tracking exactly in the synced states and clear otherwise, and a PRESENT peer below
its loss limit (R62, R63, R68, R74), where the configuration fits, which it keeps as well. -/
def Obligations.StepKeepsPeers : Prop := KeptByStep fun s => s.ConfigFits ∧ s.PeersFit
end

