-- ==== Sys2Proof/Laws/State.lean ====
section
/-!
SUPPORT. One lemma for each field of the state under each setter of a block: all true by unfolding.
-/

namespace Sys2Proof.Machine

variable (s : State)

/-! ### setTimer -/

@[simp] theorem State.setTimer_resetHeld (x : RoundTimer) : (s.setTimer x).resetHeld = s.resetHeld := rfl
@[simp] theorem State.setTimer_timer (x : RoundTimer) : (s.setTimer x).timer = x := rfl
@[simp] theorem State.setTimer_settings (x : RoundTimer) : (s.setTimer x).settings = s.settings := rfl
@[simp] theorem State.setTimer_locked (x : RoundTimer) : (s.setTimer x).locked = s.locked := rfl
@[simp] theorem State.setTimer_frames (x : RoundTimer) : (s.setTimer x).frames = s.frames := rfl
@[simp] theorem State.setTimer_counters (x : RoundTimer) : (s.setTimer x).counters = s.counters := rfl
@[simp] theorem State.setTimer_line (x : RoundTimer) : (s.setTimer x).line = s.line := rfl
@[simp] theorem State.setTimer_peers (x : RoundTimer) : (s.setTimer x).peers = s.peers := rfl
@[simp] theorem State.setTimer_entries (x : RoundTimer) : (s.setTimer x).entries = s.entries := rfl
@[simp] theorem State.setTimer_completions (x : RoundTimer) : (s.setTimer x).completions = s.completions := rfl
@[simp] theorem State.setTimer_channels (x : RoundTimer) : (s.setTimer x).channels = s.channels := rfl
@[simp] theorem State.setTimer_triggers (x : RoundTimer) : (s.setTimer x).triggers = s.triggers := rfl
@[simp] theorem State.setTimer_markers (x : RoundTimer) : (s.setTimer x).markers = s.markers := rfl
@[simp] theorem State.setTimer_latches (x : RoundTimer) : (s.setTimer x).latches = s.latches := rfl
@[simp] theorem State.setTimer_port (x : RoundTimer) : (s.setTimer x).port = s.port := rfl
@[simp] theorem State.setTimer_choices (x : RoundTimer) : (s.setTimer x).choices = s.choices := rfl
@[simp] theorem State.setTimer_pending (x : RoundTimer) : (s.setTimer x).pending = s.pending := rfl

/-! ### setSettings -/

@[simp] theorem State.setSettings_resetHeld (x : Settings) : (s.setSettings x).resetHeld = s.resetHeld := rfl
@[simp] theorem State.setSettings_timer (x : Settings) : (s.setSettings x).timer = s.timer := rfl
@[simp] theorem State.setSettings_settings (x : Settings) : (s.setSettings x).settings = x := rfl
@[simp] theorem State.setSettings_locked (x : Settings) : (s.setSettings x).locked = s.locked := rfl
@[simp] theorem State.setSettings_frames (x : Settings) : (s.setSettings x).frames = s.frames := rfl
@[simp] theorem State.setSettings_counters (x : Settings) : (s.setSettings x).counters = s.counters := rfl
@[simp] theorem State.setSettings_line (x : Settings) : (s.setSettings x).line = s.line := rfl
@[simp] theorem State.setSettings_peers (x : Settings) : (s.setSettings x).peers = s.peers := rfl
@[simp] theorem State.setSettings_entries (x : Settings) : (s.setSettings x).entries = s.entries := rfl
@[simp] theorem State.setSettings_completions (x : Settings) : (s.setSettings x).completions = s.completions := rfl
@[simp] theorem State.setSettings_channels (x : Settings) : (s.setSettings x).channels = s.channels := rfl
@[simp] theorem State.setSettings_triggers (x : Settings) : (s.setSettings x).triggers = s.triggers := rfl
@[simp] theorem State.setSettings_markers (x : Settings) : (s.setSettings x).markers = s.markers := rfl
@[simp] theorem State.setSettings_latches (x : Settings) : (s.setSettings x).latches = s.latches := rfl
@[simp] theorem State.setSettings_port (x : Settings) : (s.setSettings x).port = s.port := rfl
@[simp] theorem State.setSettings_choices (x : Settings) : (s.setSettings x).choices = s.choices := rfl
@[simp] theorem State.setSettings_pending (x : Settings) : (s.setSettings x).pending = s.pending := rfl

/-! ### setLocked -/

@[simp] theorem State.setLocked_resetHeld (x : Bool) : (s.setLocked x).resetHeld = s.resetHeld := rfl
@[simp] theorem State.setLocked_timer (x : Bool) : (s.setLocked x).timer = s.timer := rfl
@[simp] theorem State.setLocked_settings (x : Bool) : (s.setLocked x).settings = s.settings := rfl
@[simp] theorem State.setLocked_locked (x : Bool) : (s.setLocked x).locked = x := rfl
@[simp] theorem State.setLocked_frames (x : Bool) : (s.setLocked x).frames = s.frames := rfl
@[simp] theorem State.setLocked_counters (x : Bool) : (s.setLocked x).counters = s.counters := rfl
@[simp] theorem State.setLocked_line (x : Bool) : (s.setLocked x).line = s.line := rfl
@[simp] theorem State.setLocked_peers (x : Bool) : (s.setLocked x).peers = s.peers := rfl
@[simp] theorem State.setLocked_entries (x : Bool) : (s.setLocked x).entries = s.entries := rfl
@[simp] theorem State.setLocked_completions (x : Bool) : (s.setLocked x).completions = s.completions := rfl
@[simp] theorem State.setLocked_channels (x : Bool) : (s.setLocked x).channels = s.channels := rfl
@[simp] theorem State.setLocked_triggers (x : Bool) : (s.setLocked x).triggers = s.triggers := rfl
@[simp] theorem State.setLocked_markers (x : Bool) : (s.setLocked x).markers = s.markers := rfl
@[simp] theorem State.setLocked_latches (x : Bool) : (s.setLocked x).latches = s.latches := rfl
@[simp] theorem State.setLocked_port (x : Bool) : (s.setLocked x).port = s.port := rfl
@[simp] theorem State.setLocked_choices (x : Bool) : (s.setLocked x).choices = s.choices := rfl
@[simp] theorem State.setLocked_pending (x : Bool) : (s.setLocked x).pending = s.pending := rfl

/-! ### setFrames -/

@[simp] theorem State.setFrames_resetHeld (x : FrameLayer) : (s.setFrames x).resetHeld = s.resetHeld := rfl
@[simp] theorem State.setFrames_timer (x : FrameLayer) : (s.setFrames x).timer = s.timer := rfl
@[simp] theorem State.setFrames_settings (x : FrameLayer) : (s.setFrames x).settings = s.settings := rfl
@[simp] theorem State.setFrames_locked (x : FrameLayer) : (s.setFrames x).locked = s.locked := rfl
@[simp] theorem State.setFrames_frames (x : FrameLayer) : (s.setFrames x).frames = x := rfl
@[simp] theorem State.setFrames_counters (x : FrameLayer) : (s.setFrames x).counters = s.counters := rfl
@[simp] theorem State.setFrames_line (x : FrameLayer) : (s.setFrames x).line = s.line := rfl
@[simp] theorem State.setFrames_peers (x : FrameLayer) : (s.setFrames x).peers = s.peers := rfl
@[simp] theorem State.setFrames_entries (x : FrameLayer) : (s.setFrames x).entries = s.entries := rfl
@[simp] theorem State.setFrames_completions (x : FrameLayer) : (s.setFrames x).completions = s.completions := rfl
@[simp] theorem State.setFrames_channels (x : FrameLayer) : (s.setFrames x).channels = s.channels := rfl
@[simp] theorem State.setFrames_triggers (x : FrameLayer) : (s.setFrames x).triggers = s.triggers := rfl
@[simp] theorem State.setFrames_markers (x : FrameLayer) : (s.setFrames x).markers = s.markers := rfl
@[simp] theorem State.setFrames_latches (x : FrameLayer) : (s.setFrames x).latches = s.latches := rfl
@[simp] theorem State.setFrames_port (x : FrameLayer) : (s.setFrames x).port = s.port := rfl
@[simp] theorem State.setFrames_choices (x : FrameLayer) : (s.setFrames x).choices = s.choices := rfl
@[simp] theorem State.setFrames_pending (x : FrameLayer) : (s.setFrames x).pending = s.pending := rfl

/-! ### setCounters -/

@[simp] theorem State.setCounters_resetHeld (x : Counters) : (s.setCounters x).resetHeld = s.resetHeld := rfl
@[simp] theorem State.setCounters_timer (x : Counters) : (s.setCounters x).timer = s.timer := rfl
@[simp] theorem State.setCounters_settings (x : Counters) : (s.setCounters x).settings = s.settings := rfl
@[simp] theorem State.setCounters_locked (x : Counters) : (s.setCounters x).locked = s.locked := rfl
@[simp] theorem State.setCounters_frames (x : Counters) : (s.setCounters x).frames = s.frames := rfl
@[simp] theorem State.setCounters_counters (x : Counters) : (s.setCounters x).counters = x := rfl
@[simp] theorem State.setCounters_line (x : Counters) : (s.setCounters x).line = s.line := rfl
@[simp] theorem State.setCounters_peers (x : Counters) : (s.setCounters x).peers = s.peers := rfl
@[simp] theorem State.setCounters_entries (x : Counters) : (s.setCounters x).entries = s.entries := rfl
@[simp] theorem State.setCounters_completions (x : Counters) : (s.setCounters x).completions = s.completions := rfl
@[simp] theorem State.setCounters_channels (x : Counters) : (s.setCounters x).channels = s.channels := rfl
@[simp] theorem State.setCounters_triggers (x : Counters) : (s.setCounters x).triggers = s.triggers := rfl
@[simp] theorem State.setCounters_markers (x : Counters) : (s.setCounters x).markers = s.markers := rfl
@[simp] theorem State.setCounters_latches (x : Counters) : (s.setCounters x).latches = s.latches := rfl
@[simp] theorem State.setCounters_port (x : Counters) : (s.setCounters x).port = s.port := rfl
@[simp] theorem State.setCounters_choices (x : Counters) : (s.setCounters x).choices = s.choices := rfl
@[simp] theorem State.setCounters_pending (x : Counters) : (s.setCounters x).pending = s.pending := rfl

/-! ### setLine -/

@[simp] theorem State.setLine_resetHeld (x : LineController) : (s.setLine x).resetHeld = s.resetHeld := rfl
@[simp] theorem State.setLine_timer (x : LineController) : (s.setLine x).timer = s.timer := rfl
@[simp] theorem State.setLine_settings (x : LineController) : (s.setLine x).settings = s.settings := rfl
@[simp] theorem State.setLine_locked (x : LineController) : (s.setLine x).locked = s.locked := rfl
@[simp] theorem State.setLine_frames (x : LineController) : (s.setLine x).frames = s.frames := rfl
@[simp] theorem State.setLine_counters (x : LineController) : (s.setLine x).counters = s.counters := rfl
@[simp] theorem State.setLine_line (x : LineController) : (s.setLine x).line = x := rfl
@[simp] theorem State.setLine_peers (x : LineController) : (s.setLine x).peers = s.peers := rfl
@[simp] theorem State.setLine_entries (x : LineController) : (s.setLine x).entries = s.entries := rfl
@[simp] theorem State.setLine_completions (x : LineController) : (s.setLine x).completions = s.completions := rfl
@[simp] theorem State.setLine_channels (x : LineController) : (s.setLine x).channels = s.channels := rfl
@[simp] theorem State.setLine_triggers (x : LineController) : (s.setLine x).triggers = s.triggers := rfl
@[simp] theorem State.setLine_markers (x : LineController) : (s.setLine x).markers = s.markers := rfl
@[simp] theorem State.setLine_latches (x : LineController) : (s.setLine x).latches = s.latches := rfl
@[simp] theorem State.setLine_port (x : LineController) : (s.setLine x).port = s.port := rfl
@[simp] theorem State.setLine_choices (x : LineController) : (s.setLine x).choices = s.choices := rfl
@[simp] theorem State.setLine_pending (x : LineController) : (s.setLine x).pending = s.pending := rfl

/-! ### setPeers -/

@[simp] theorem State.setPeers_resetHeld (x : PeerTable) : (s.setPeers x).resetHeld = s.resetHeld := rfl
@[simp] theorem State.setPeers_timer (x : PeerTable) : (s.setPeers x).timer = s.timer := rfl
@[simp] theorem State.setPeers_settings (x : PeerTable) : (s.setPeers x).settings = s.settings := rfl
@[simp] theorem State.setPeers_locked (x : PeerTable) : (s.setPeers x).locked = s.locked := rfl
@[simp] theorem State.setPeers_frames (x : PeerTable) : (s.setPeers x).frames = s.frames := rfl
@[simp] theorem State.setPeers_counters (x : PeerTable) : (s.setPeers x).counters = s.counters := rfl
@[simp] theorem State.setPeers_line (x : PeerTable) : (s.setPeers x).line = s.line := rfl
@[simp] theorem State.setPeers_peers (x : PeerTable) : (s.setPeers x).peers = x := rfl
@[simp] theorem State.setPeers_entries (x : PeerTable) : (s.setPeers x).entries = s.entries := rfl
@[simp] theorem State.setPeers_completions (x : PeerTable) : (s.setPeers x).completions = s.completions := rfl
@[simp] theorem State.setPeers_channels (x : PeerTable) : (s.setPeers x).channels = s.channels := rfl
@[simp] theorem State.setPeers_triggers (x : PeerTable) : (s.setPeers x).triggers = s.triggers := rfl
@[simp] theorem State.setPeers_markers (x : PeerTable) : (s.setPeers x).markers = s.markers := rfl
@[simp] theorem State.setPeers_latches (x : PeerTable) : (s.setPeers x).latches = s.latches := rfl
@[simp] theorem State.setPeers_port (x : PeerTable) : (s.setPeers x).port = s.port := rfl
@[simp] theorem State.setPeers_choices (x : PeerTable) : (s.setPeers x).choices = s.choices := rfl
@[simp] theorem State.setPeers_pending (x : PeerTable) : (s.setPeers x).pending = s.pending := rfl

/-! ### setEntries -/

@[simp] theorem State.setEntries_resetHeld (x : Vector Entry 16) : (s.setEntries x).resetHeld = s.resetHeld := rfl
@[simp] theorem State.setEntries_timer (x : Vector Entry 16) : (s.setEntries x).timer = s.timer := rfl
@[simp] theorem State.setEntries_settings (x : Vector Entry 16) : (s.setEntries x).settings = s.settings := rfl
@[simp] theorem State.setEntries_locked (x : Vector Entry 16) : (s.setEntries x).locked = s.locked := rfl
@[simp] theorem State.setEntries_frames (x : Vector Entry 16) : (s.setEntries x).frames = s.frames := rfl
@[simp] theorem State.setEntries_counters (x : Vector Entry 16) : (s.setEntries x).counters = s.counters := rfl
@[simp] theorem State.setEntries_line (x : Vector Entry 16) : (s.setEntries x).line = s.line := rfl
@[simp] theorem State.setEntries_peers (x : Vector Entry 16) : (s.setEntries x).peers = s.peers := rfl
@[simp] theorem State.setEntries_entries (x : Vector Entry 16) : (s.setEntries x).entries = x := rfl
@[simp] theorem State.setEntries_completions (x : Vector Entry 16) : (s.setEntries x).completions = s.completions := rfl
@[simp] theorem State.setEntries_channels (x : Vector Entry 16) : (s.setEntries x).channels = s.channels := rfl
@[simp] theorem State.setEntries_triggers (x : Vector Entry 16) : (s.setEntries x).triggers = s.triggers := rfl
@[simp] theorem State.setEntries_markers (x : Vector Entry 16) : (s.setEntries x).markers = s.markers := rfl
@[simp] theorem State.setEntries_latches (x : Vector Entry 16) : (s.setEntries x).latches = s.latches := rfl
@[simp] theorem State.setEntries_port (x : Vector Entry 16) : (s.setEntries x).port = s.port := rfl
@[simp] theorem State.setEntries_choices (x : Vector Entry 16) : (s.setEntries x).choices = s.choices := rfl
@[simp] theorem State.setEntries_pending (x : Vector Entry 16) : (s.setEntries x).pending = s.pending := rfl

/-! ### setCompletions -/

@[simp] theorem State.setCompletions_resetHeld (x : List EntryIndex) : (s.setCompletions x).resetHeld = s.resetHeld := rfl
@[simp] theorem State.setCompletions_timer (x : List EntryIndex) : (s.setCompletions x).timer = s.timer := rfl
@[simp] theorem State.setCompletions_settings (x : List EntryIndex) : (s.setCompletions x).settings = s.settings := rfl
@[simp] theorem State.setCompletions_locked (x : List EntryIndex) : (s.setCompletions x).locked = s.locked := rfl
@[simp] theorem State.setCompletions_frames (x : List EntryIndex) : (s.setCompletions x).frames = s.frames := rfl
@[simp] theorem State.setCompletions_counters (x : List EntryIndex) : (s.setCompletions x).counters = s.counters := rfl
@[simp] theorem State.setCompletions_line (x : List EntryIndex) : (s.setCompletions x).line = s.line := rfl
@[simp] theorem State.setCompletions_peers (x : List EntryIndex) : (s.setCompletions x).peers = s.peers := rfl
@[simp] theorem State.setCompletions_entries (x : List EntryIndex) : (s.setCompletions x).entries = s.entries := rfl
@[simp] theorem State.setCompletions_completions (x : List EntryIndex) : (s.setCompletions x).completions = x := rfl
@[simp] theorem State.setCompletions_channels (x : List EntryIndex) : (s.setCompletions x).channels = s.channels := rfl
@[simp] theorem State.setCompletions_triggers (x : List EntryIndex) : (s.setCompletions x).triggers = s.triggers := rfl
@[simp] theorem State.setCompletions_markers (x : List EntryIndex) : (s.setCompletions x).markers = s.markers := rfl
@[simp] theorem State.setCompletions_latches (x : List EntryIndex) : (s.setCompletions x).latches = s.latches := rfl
@[simp] theorem State.setCompletions_port (x : List EntryIndex) : (s.setCompletions x).port = s.port := rfl
@[simp] theorem State.setCompletions_choices (x : List EntryIndex) : (s.setCompletions x).choices = s.choices := rfl
@[simp] theorem State.setCompletions_pending (x : List EntryIndex) : (s.setCompletions x).pending = s.pending := rfl

/-! ### setChannels -/

@[simp] theorem State.setChannels_resetHeld (x : Vector Channel 8) : (s.setChannels x).resetHeld = s.resetHeld := rfl
@[simp] theorem State.setChannels_timer (x : Vector Channel 8) : (s.setChannels x).timer = s.timer := rfl
@[simp] theorem State.setChannels_settings (x : Vector Channel 8) : (s.setChannels x).settings = s.settings := rfl
@[simp] theorem State.setChannels_locked (x : Vector Channel 8) : (s.setChannels x).locked = s.locked := rfl
@[simp] theorem State.setChannels_frames (x : Vector Channel 8) : (s.setChannels x).frames = s.frames := rfl
@[simp] theorem State.setChannels_counters (x : Vector Channel 8) : (s.setChannels x).counters = s.counters := rfl
@[simp] theorem State.setChannels_line (x : Vector Channel 8) : (s.setChannels x).line = s.line := rfl
@[simp] theorem State.setChannels_peers (x : Vector Channel 8) : (s.setChannels x).peers = s.peers := rfl
@[simp] theorem State.setChannels_entries (x : Vector Channel 8) : (s.setChannels x).entries = s.entries := rfl
@[simp] theorem State.setChannels_completions (x : Vector Channel 8) : (s.setChannels x).completions = s.completions := rfl
@[simp] theorem State.setChannels_channels (x : Vector Channel 8) : (s.setChannels x).channels = x := rfl
@[simp] theorem State.setChannels_triggers (x : Vector Channel 8) : (s.setChannels x).triggers = s.triggers := rfl
@[simp] theorem State.setChannels_markers (x : Vector Channel 8) : (s.setChannels x).markers = s.markers := rfl
@[simp] theorem State.setChannels_latches (x : Vector Channel 8) : (s.setChannels x).latches = s.latches := rfl
@[simp] theorem State.setChannels_port (x : Vector Channel 8) : (s.setChannels x).port = s.port := rfl
@[simp] theorem State.setChannels_choices (x : Vector Channel 8) : (s.setChannels x).choices = s.choices := rfl
@[simp] theorem State.setChannels_pending (x : Vector Channel 8) : (s.setChannels x).pending = s.pending := rfl

/-! ### setTriggers -/

@[simp] theorem State.setTriggers_resetHeld (x : Vector Trigger 4) : (s.setTriggers x).resetHeld = s.resetHeld := rfl
@[simp] theorem State.setTriggers_timer (x : Vector Trigger 4) : (s.setTriggers x).timer = s.timer := rfl
@[simp] theorem State.setTriggers_settings (x : Vector Trigger 4) : (s.setTriggers x).settings = s.settings := rfl
@[simp] theorem State.setTriggers_locked (x : Vector Trigger 4) : (s.setTriggers x).locked = s.locked := rfl
@[simp] theorem State.setTriggers_frames (x : Vector Trigger 4) : (s.setTriggers x).frames = s.frames := rfl
@[simp] theorem State.setTriggers_counters (x : Vector Trigger 4) : (s.setTriggers x).counters = s.counters := rfl
@[simp] theorem State.setTriggers_line (x : Vector Trigger 4) : (s.setTriggers x).line = s.line := rfl
@[simp] theorem State.setTriggers_peers (x : Vector Trigger 4) : (s.setTriggers x).peers = s.peers := rfl
@[simp] theorem State.setTriggers_entries (x : Vector Trigger 4) : (s.setTriggers x).entries = s.entries := rfl
@[simp] theorem State.setTriggers_completions (x : Vector Trigger 4) : (s.setTriggers x).completions = s.completions := rfl
@[simp] theorem State.setTriggers_channels (x : Vector Trigger 4) : (s.setTriggers x).channels = s.channels := rfl
@[simp] theorem State.setTriggers_triggers (x : Vector Trigger 4) : (s.setTriggers x).triggers = x := rfl
@[simp] theorem State.setTriggers_markers (x : Vector Trigger 4) : (s.setTriggers x).markers = s.markers := rfl
@[simp] theorem State.setTriggers_latches (x : Vector Trigger 4) : (s.setTriggers x).latches = s.latches := rfl
@[simp] theorem State.setTriggers_port (x : Vector Trigger 4) : (s.setTriggers x).port = s.port := rfl
@[simp] theorem State.setTriggers_choices (x : Vector Trigger 4) : (s.setTriggers x).choices = s.choices := rfl
@[simp] theorem State.setTriggers_pending (x : Vector Trigger 4) : (s.setTriggers x).pending = s.pending := rfl

/-! ### setMarkers -/

@[simp] theorem State.setMarkers_resetHeld (x : Vector Marker 2) : (s.setMarkers x).resetHeld = s.resetHeld := rfl
@[simp] theorem State.setMarkers_timer (x : Vector Marker 2) : (s.setMarkers x).timer = s.timer := rfl
@[simp] theorem State.setMarkers_settings (x : Vector Marker 2) : (s.setMarkers x).settings = s.settings := rfl
@[simp] theorem State.setMarkers_locked (x : Vector Marker 2) : (s.setMarkers x).locked = s.locked := rfl
@[simp] theorem State.setMarkers_frames (x : Vector Marker 2) : (s.setMarkers x).frames = s.frames := rfl
@[simp] theorem State.setMarkers_counters (x : Vector Marker 2) : (s.setMarkers x).counters = s.counters := rfl
@[simp] theorem State.setMarkers_line (x : Vector Marker 2) : (s.setMarkers x).line = s.line := rfl
@[simp] theorem State.setMarkers_peers (x : Vector Marker 2) : (s.setMarkers x).peers = s.peers := rfl
@[simp] theorem State.setMarkers_entries (x : Vector Marker 2) : (s.setMarkers x).entries = s.entries := rfl
@[simp] theorem State.setMarkers_completions (x : Vector Marker 2) : (s.setMarkers x).completions = s.completions := rfl
@[simp] theorem State.setMarkers_channels (x : Vector Marker 2) : (s.setMarkers x).channels = s.channels := rfl
@[simp] theorem State.setMarkers_triggers (x : Vector Marker 2) : (s.setMarkers x).triggers = s.triggers := rfl
@[simp] theorem State.setMarkers_markers (x : Vector Marker 2) : (s.setMarkers x).markers = x := rfl
@[simp] theorem State.setMarkers_latches (x : Vector Marker 2) : (s.setMarkers x).latches = s.latches := rfl
@[simp] theorem State.setMarkers_port (x : Vector Marker 2) : (s.setMarkers x).port = s.port := rfl
@[simp] theorem State.setMarkers_choices (x : Vector Marker 2) : (s.setMarkers x).choices = s.choices := rfl
@[simp] theorem State.setMarkers_pending (x : Vector Marker 2) : (s.setMarkers x).pending = s.pending := rfl

/-! ### setLatches -/

@[simp] theorem State.setLatches_resetHeld (x : Latches) : (s.setLatches x).resetHeld = s.resetHeld := rfl
@[simp] theorem State.setLatches_timer (x : Latches) : (s.setLatches x).timer = s.timer := rfl
@[simp] theorem State.setLatches_settings (x : Latches) : (s.setLatches x).settings = s.settings := rfl
@[simp] theorem State.setLatches_locked (x : Latches) : (s.setLatches x).locked = s.locked := rfl
@[simp] theorem State.setLatches_frames (x : Latches) : (s.setLatches x).frames = s.frames := rfl
@[simp] theorem State.setLatches_counters (x : Latches) : (s.setLatches x).counters = s.counters := rfl
@[simp] theorem State.setLatches_line (x : Latches) : (s.setLatches x).line = s.line := rfl
@[simp] theorem State.setLatches_peers (x : Latches) : (s.setLatches x).peers = s.peers := rfl
@[simp] theorem State.setLatches_entries (x : Latches) : (s.setLatches x).entries = s.entries := rfl
@[simp] theorem State.setLatches_completions (x : Latches) : (s.setLatches x).completions = s.completions := rfl
@[simp] theorem State.setLatches_channels (x : Latches) : (s.setLatches x).channels = s.channels := rfl
@[simp] theorem State.setLatches_triggers (x : Latches) : (s.setLatches x).triggers = s.triggers := rfl
@[simp] theorem State.setLatches_markers (x : Latches) : (s.setLatches x).markers = s.markers := rfl
@[simp] theorem State.setLatches_latches (x : Latches) : (s.setLatches x).latches = x := rfl
@[simp] theorem State.setLatches_port (x : Latches) : (s.setLatches x).port = s.port := rfl
@[simp] theorem State.setLatches_choices (x : Latches) : (s.setLatches x).choices = s.choices := rfl
@[simp] theorem State.setLatches_pending (x : Latches) : (s.setLatches x).pending = s.pending := rfl

/-! ### setPort -/

@[simp] theorem State.setPort_resetHeld (x : Port) : (s.setPort x).resetHeld = s.resetHeld := rfl
@[simp] theorem State.setPort_timer (x : Port) : (s.setPort x).timer = s.timer := rfl
@[simp] theorem State.setPort_settings (x : Port) : (s.setPort x).settings = s.settings := rfl
@[simp] theorem State.setPort_locked (x : Port) : (s.setPort x).locked = s.locked := rfl
@[simp] theorem State.setPort_frames (x : Port) : (s.setPort x).frames = s.frames := rfl
@[simp] theorem State.setPort_counters (x : Port) : (s.setPort x).counters = s.counters := rfl
@[simp] theorem State.setPort_line (x : Port) : (s.setPort x).line = s.line := rfl
@[simp] theorem State.setPort_peers (x : Port) : (s.setPort x).peers = s.peers := rfl
@[simp] theorem State.setPort_entries (x : Port) : (s.setPort x).entries = s.entries := rfl
@[simp] theorem State.setPort_completions (x : Port) : (s.setPort x).completions = s.completions := rfl
@[simp] theorem State.setPort_channels (x : Port) : (s.setPort x).channels = s.channels := rfl
@[simp] theorem State.setPort_triggers (x : Port) : (s.setPort x).triggers = s.triggers := rfl
@[simp] theorem State.setPort_markers (x : Port) : (s.setPort x).markers = s.markers := rfl
@[simp] theorem State.setPort_latches (x : Port) : (s.setPort x).latches = s.latches := rfl
@[simp] theorem State.setPort_port (x : Port) : (s.setPort x).port = x := rfl
@[simp] theorem State.setPort_choices (x : Port) : (s.setPort x).choices = s.choices := rfl
@[simp] theorem State.setPort_pending (x : Port) : (s.setPort x).pending = s.pending := rfl

end Sys2Proof.Machine
end

