-- ==== Sys2Proof/Laws/Access.lean ====
section
/-!
SUPPORT. Reading one entry, channel, trigger input, marker or peer after one of them is replaced, and what the commands'
common frames answer: `whenRunning` and `commandRow`.
-/

namespace Sys2Proof.Machine

variable (s : State)

/-! ### One member of a table after one is replaced -/

@[simp] theorem State.entry_setEntry (i j : EntryIndex) (e : Entry) :
    (s.setEntry i e).entry j = if j = i then e else s.entry j := by
  by_cases h : j = i
  · subst h; simp [State.entry, State.setEntry]
  · have h' : i.val ≠ j.val := fun hv => h (Fin.ext hv.symm)
    simp [State.entry, State.setEntry, h, Vector.getElem_set_ne, h']

@[simp] theorem State.trigger_setTrigger (i j : InputIndex) (e : Trigger) :
    (s.setTrigger i e).trigger j = if j = i then e else s.trigger j := by
  by_cases h : j = i
  · subst h; simp [State.trigger, State.setTrigger]
  · have h' : i.val ≠ j.val := fun hv => h (Fin.ext hv.symm)
    simp [State.trigger, State.setTrigger, h, Vector.getElem_set_ne, h']

@[simp] theorem State.marker_setMarker (i j : MarkerIndex) (e : Marker) :
    (s.setMarker i e).marker j = if j = i then e else s.marker j := by
  by_cases h : j = i
  · subst h; simp [State.marker, State.setMarker]
  · have h' : i.val ≠ j.val := fun hv => h (Fin.ext hv.symm)
    simp [State.marker, State.setMarker, h, Vector.getElem_set_ne, h']

@[simp] theorem State.peer_setPeer (i j : Station) (e : PeerRecord) :
    (s.setPeer i e).peer j = if j = i then e else s.peer j := by
  by_cases h : j = i
  · subst h; simp [State.peer, State.setPeer]
  · have h' : i.val ≠ j.val := fun hv => h (Fin.ext hv.symm)
    simp [State.peer, State.setPeer, h, Vector.getElem_set_ne, h']

/-- A replaced channel is settled: its forced state and its pin follow (R163). -/
@[simp] theorem State.channel_setChannel (i j : ChannelIndex) (c : Channel) :
    (s.setChannel i c).channel j = if j = i then c.settle s.isActive else s.channel j := by
  by_cases h : j = i
  · subst h; simp [State.channel, State.setChannel]
  · have h' : i.val ≠ j.val := fun hv => h (Fin.ext hv.symm)
    simp [State.channel, State.setChannel, h, Vector.getElem_set_ne, h']

/-- A channel replaced without settling, as the staged queue's changes do. -/
@[simp] theorem State.channel_setChannels (i j : ChannelIndex) (c : Channel) :
    (s.setChannels (s.channels.set i c)).channel j = if j = i then c else s.channel j := by
  by_cases h : j = i
  · subst h; simp [State.channel]
  · have h' : i.val ≠ j.val := fun hv => h (Fin.ext hv.symm)
    simp [State.channel, h, Vector.getElem_set_ne, h']

/-! ### Settling a channel -/

@[simp] theorem Channel.settle_forced (c : Channel) (a : Bool) : (c.settle a).forced = (c.active.guard && !a) := rfl
@[simp] theorem Channel.settle_active (c : Channel) (a : Bool) : (c.settle a).active = c.active := rfl
@[simp] theorem Channel.settle_staged (c : Channel) (a : Bool) : (c.settle a).staged = c.staged := rfl
@[simp] theorem Channel.settle_run (c : Channel) (a : Bool) : (c.settle a).run = c.run := rfl
@[simp] theorem Channel.settle_position (c : Channel) (a : Bool) : (c.settle a).position = c.position := rfl
@[simp] theorem Channel.settle_phaseRemaining (c : Channel) (a : Bool) :
    (c.settle a).phaseRemaining = c.phaseRemaining := rfl
@[simp] theorem Channel.settle_periodsRemaining (c : Channel) (a : Bool) :
    (c.settle a).periodsRemaining = c.periodsRemaining := rfl
@[simp] theorem Channel.settle_periodEnds (c : Channel) (a : Bool) : (c.settle a).periodEnds = c.periodEnds := rfl
@[simp] theorem Channel.settle_owed (c : Channel) (a : Bool) : (c.settle a).owed = c.owed := rfl

/-- A settled channel's pin drives what Table 32 gives. -/
theorem Channel.settle_pin (c : Channel) (a : Bool) : (c.settle a).pin = (c.settle a).pinLevel := rfl

/-! ### The commands' common frames -/

/-- A command of a station that runs acts, and answers a next state. -/
theorem State.whenRunning_running (act : State → State) (h : s.resetHeld = false) :
    s.whenRunning act = .next (act s) := by
  simp [State.whenRunning, h]

/-- While RESETN is low a command changes nothing. -/
theorem State.whenRunning_held (act : State → State) (h : s.resetHeld = true) : s.whenRunning act = .next s := by
  simp [State.whenRunning, h]

/-- A port command has its command event when the port can receive its last byte. -/
theorem State.commandRow_ready (c : PortCommand) (args : List Byte) (run : State → Reply) (h : s.resetHeld = false)
    (h' : s.port.state.takesCommand = true) :
    s.commandRow c args run = .next ((run (s.setPort { Port.idle with closedNow := s.port.closedNow })).finish c args) := by
  simp [State.commandRow, State.whenRunning, State.handCommand, h, h']

/-- A port command changes nothing while RESETN is low, or behind another command of the same transaction. -/
theorem State.commandRow_ignored (c : PortCommand) (args : List Byte) (run : State → Reply)
    (h : s.resetHeld = true ∨ s.port.state.takesCommand = false) : s.commandRow c args run = .next s := by
  rcases h with h | h <;> simp [State.commandRow, State.whenRunning, h]

/-- A refusal leaves the station and answers the code with data bytes of 0 (R180). -/
theorem Reply.finish_refuse (c : PortCommand) (args : List Byte) (r : ResultCode) (h : r ≠ .ok) :
    (s.refuse r).finish c args =
      s.setPort
        { state := .turnaround, bits := 0, shift := 0#8, command := some c.byte, args := args, needed := c.argBytes
          snapshot := some (r.byte :: List.replicate c.dataBytes 0#8), shifted := 0, commit := none } := by
  simp [Reply.finish, State.refuse, Reply.snapshot, h]

/-- A command that is carried out answers OK without data. -/
theorem Reply.finish_accept (c : PortCommand) (args : List Byte) :
    s.accept.finish c args =
      s.setPort
        { state := .turnaround, bits := 0, shift := 0#8, command := some c.byte, args := args, needed := c.argBytes
          snapshot := some [0x00#8], shifted := 0, commit := c.commit } := by
  simp [Reply.finish, State.accept, Reply.snapshot, ResultCode.byte]

/-- A reading command answers OK with its data. -/
theorem Reply.finish_report (c : PortCommand) (args data : List Byte) :
    (s.report data).finish c args =
      s.setPort
        { state := .turnaround, bits := 0, shift := 0#8, command := some c.byte, args := args, needed := c.argBytes
          snapshot := some (0x00#8 :: data), shifted := 0, commit := c.commit } := by
  simp [Reply.finish, State.report, Reply.snapshot, ResultCode.byte]

end Sys2Proof.Machine
end

