-- ==== Sys2Proof/Laws/Keeps.lean ====
section
/-!
SUPPORT. Frames of the shared operations: for each operation, the blocks of the state that it may change. Every other
block reads after it as it read before.
-/

namespace Sys2Proof.Machine

-- One lemma after another: side by side, the evaluations of `decide` would each hold a thread.
set_option Elab.async false

/-- The blocks of the state. -/
inductive Block where
  | resetHeld | timer | settings | locked | frames | counters | line | peers | entries | completions | channels
  | triggers | markers | latches | port | choices | pending
  deriving DecidableEq, Repr

/-- Two states agree on a block. -/
def Block.same : Block → State → State → Prop
  | .resetHeld, s, t => t.resetHeld = s.resetHeld
  | .timer, s, t => t.timer = s.timer
  | .settings, s, t => t.settings = s.settings
  | .locked, s, t => t.locked = s.locked
  | .frames, s, t => t.frames = s.frames
  | .counters, s, t => t.counters = s.counters
  | .line, s, t => t.line = s.line
  | .peers, s, t => t.peers = s.peers
  | .entries, s, t => t.entries = s.entries
  | .completions, s, t => t.completions = s.completions
  | .channels, s, t => t.channels = s.channels
  | .triggers, s, t => t.triggers = s.triggers
  | .markers, s, t => t.markers = s.markers
  | .latches, s, t => t.latches = s.latches
  | .port, s, t => t.port = s.port
  | .choices, s, t => t.choices = s.choices
  | .pending, s, t => t.pending = s.pending

/-- From `s` to `t` nothing changes outside the listed blocks. -/
def Keeps (touched : List Block) (s t : State) : Prop := ∀ b : Block, b ∉ touched → b.same s t

theorem Keeps.refl (l : List Block) (s : State) : Keeps l s s := fun b _ => by cases b <;> rfl

theorem Keeps.trans {l : List Block} {s t u : State} (h : Keeps l s t) (h' : Keeps l t u) : Keeps l s u := by
  intro b hb
  have h1 := h b hb
  have h2 := h' b hb
  cases b <;> exact Eq.trans h2 h1

theorem Keeps.mono {l : List Block} {s t : State} (h : Keeps l s t) (m : List Block)
    (sub : ∀ b ∈ l, b ∈ m := by decide) : Keeps m s t :=
  fun b hb => h b fun hl => hb (sub b hl)

theorem Keeps.ite {l : List Block} {s t u : State} {p : Prop} [Decidable p] (ht : Keeps l s t) (hu : Keeps l s u) :
    Keeps l s (if p then t else u) := by
  split
  · exact ht
  · exact hu

theorem Keeps.foldl {α : Type} {l : List Block} {f : State → α → State} (h : ∀ s a, Keeps l s (f s a)) (s : State)
    (as : List α) : Keeps l s (as.foldl f s) := by
  induction as generalizing s with
  | nil => exact Keeps.refl l s
  | cons a as ih => exact (h s a).trans (ih (f s a))

/-! ### Setters -/

theorem setTimer_keeps (s : State) (x : RoundTimer) : Keeps [.timer] s (s.setTimer x) := by
  intro b hb; cases b <;> first | rfl | exact absurd (by decide) hb
theorem setSettings_keeps (s : State) (x : Settings) : Keeps [.settings] s (s.setSettings x) := by
  intro b hb; cases b <;> first | rfl | exact absurd (by decide) hb
theorem setLocked_keeps (s : State) (x : Bool) : Keeps [.locked] s (s.setLocked x) := by
  intro b hb; cases b <;> first | rfl | exact absurd (by decide) hb
theorem setFrames_keeps (s : State) (x : FrameLayer) : Keeps [.frames] s (s.setFrames x) := by
  intro b hb; cases b <;> first | rfl | exact absurd (by decide) hb
theorem setCounters_keeps (s : State) (x : Counters) : Keeps [.counters] s (s.setCounters x) := by
  intro b hb; cases b <;> first | rfl | exact absurd (by decide) hb
theorem setLine_keeps (s : State) (x : LineController) : Keeps [.line] s (s.setLine x) := by
  intro b hb; cases b <;> first | rfl | exact absurd (by decide) hb
theorem setPeers_keeps (s : State) (x : PeerTable) : Keeps [.peers] s (s.setPeers x) := by
  intro b hb; cases b <;> first | rfl | exact absurd (by decide) hb
theorem setEntries_keeps (s : State) (x : Vector Entry 16) : Keeps [.entries] s (s.setEntries x) := by
  intro b hb; cases b <;> first | rfl | exact absurd (by decide) hb
theorem setCompletions_keeps (s : State) (x : List EntryIndex) : Keeps [.completions] s (s.setCompletions x) := by
  intro b hb; cases b <;> first | rfl | exact absurd (by decide) hb
theorem setChannels_keeps (s : State) (x : Vector Channel 8) : Keeps [.channels] s (s.setChannels x) := by
  intro b hb; cases b <;> first | rfl | exact absurd (by decide) hb
theorem setTriggers_keeps (s : State) (x : Vector Trigger 4) : Keeps [.triggers] s (s.setTriggers x) := by
  intro b hb; cases b <;> first | rfl | exact absurd (by decide) hb
theorem setMarkers_keeps (s : State) (x : Vector Marker 2) : Keeps [.markers] s (s.setMarkers x) := by
  intro b hb; cases b <;> first | rfl | exact absurd (by decide) hb
theorem setLatches_keeps (s : State) (x : Latches) : Keeps [.latches] s (s.setLatches x) := by
  intro b hb; cases b <;> first | rfl | exact absurd (by decide) hb
theorem setPort_keeps (s : State) (x : Port) : Keeps [.port] s (s.setPort x) := by
  intro b hb; cases b <;> first | rfl | exact absurd (by decide) hb

theorem setEntry_keeps (s : State) (i : EntryIndex) (e : Entry) : Keeps [.entries] s (s.setEntry i e) :=
  setEntries_keeps s _
theorem setTrigger_keeps (s : State) (k : InputIndex) (x : Trigger) : Keeps [.triggers] s (s.setTrigger k x) :=
  setTriggers_keeps s _
theorem setMarker_keeps (s : State) (k : MarkerIndex) (x : Marker) : Keeps [.markers] s (s.setMarker k x) :=
  setMarkers_keeps s _
theorem setChannel_keeps (s : State) (k : ChannelIndex) (c : Channel) : Keeps [.channels] s (s.setChannel k c) :=
  setChannels_keeps s _
theorem setPeer_keeps (s : State) (k : Station) (p : PeerRecord) : Keeps [.peers] s (s.setPeer k p) :=
  setPeers_keeps s _
theorem raise_keeps (s : State) (e : Event) : Keeps [.latches] s (s.raise e) := setLatches_keeps s _
theorem raisePeers_keeps (s : State) (j l : StationSet) : Keeps [.latches] s (s.raisePeers j l) := setLatches_keeps s _

/-! ### Entries -/

theorem settleChannels_keeps (s : State) : Keeps [.channels] s s.settleChannels :=
  Keeps.foldl (fun s k => setChannel_keeps s k _) s _

theorem leaveAnnounce_keeps (s : State) (i : EntryIndex) : Keeps [.frames] s (s.leaveAnnounce i) := setFrames_keeps s _

theorem discardStaged_keeps (s : State) (i : EntryIndex) : Keeps [.channels] s (s.discardStaged i) :=
  Keeps.foldl (fun s _ => setChannels_keeps s _) s _

/-- The blocks that closing an entry touches. -/
abbrev closing : List Block := [.entries, .frames, .channels]

theorem closeEntry_keeps (s : State) (i : EntryIndex) (o : EntryOutcome) (r : Option Reason) :
    Keeps closing s (s.closeEntry i o r) :=
  (((setEntry_keeps s i _).mono closing).trans ((leaveAnnounce_keeps _ i).mono closing)).trans
    ((discardStaged_keeps _ i).mono closing)

theorem freeEntry_keeps (s : State) (i : EntryIndex) : Keeps closing s (s.freeEntry i) :=
  ((((setEntry_keeps s i _).mono closing).trans ((leaveAnnounce_keeps _ i).mono closing)).trans
    ((discardStaged_keeps _ i).mono closing)).trans ((setFrames_keeps _ _).mono closing)

/-- A reaction of the table touches what its work touches, and the completion queue. -/
theorem tableReaction_keeps {l : List Block} (s : State) (work : State → State) (h : Keeps l s (work s)) :
    Keeps (.completions :: l) s (s.tableReaction work) :=
  Keeps.trans (fun b hb => h b fun hl => hb (List.mem_cons_of_mem _ hl))
    (fun b hb => setCompletions_keeps _ _ b fun hl => hb (by simp at hl; simp [hl]))

theorem noteClosed_keeps (s t : State) : Keeps [.port] t (State.noteClosed s t) := setPort_keeps t _
theorem passInstant_keeps (s : State) : Keeps [.port] s s.passInstant := setPort_keeps s _

/-- The blocks that a reaction closing entries touches. -/
abbrev reacting : List Block := .completions :: closing

theorem abandonPending_keeps (s : State) (r : Reason) : Keeps reacting s (s.abandonPending r) :=
  tableReaction_keeps s _ (Keeps.foldl (fun s i => Keeps.ite (closeEntry_keeps s i _ _) (Keeps.refl _ s)) s _)

theorem lossNotice_keeps (s : State) (l : StationSet) : Keeps reacting s (s.lossNotice l) :=
  tableReaction_keeps s _ (Keeps.foldl (fun s i => Keeps.ite (closeEntry_keeps s i _ _) (Keeps.refl _ s)) s _)

/-- The blocks that a local arrival touches. -/
abbrev arriving : List Block := [.entries, .frames]

theorem arriveLocally_keeps (s : State) (i : EntryIndex) : Keeps arriving s (s.arriveLocally i) :=
  ((setEntry_keeps s i _).mono arriving).trans ((setFrames_keeps _ _).mono arriving)

theorem startArmed_keeps (s : State) (i : EntryIndex) (r : Round) : Keeps [.entries] s (s.startArmed i r) :=
  setEntry_keeps s i _

theorem arriveImmediate_keeps (s : State) (i : EntryIndex) : Keeps arriving s (s.arriveImmediate i) :=
  Keeps.ite (arriveLocally_keeps s i) (Keeps.refl _ s)

theorem armEntry_keeps (s : State) (i : EntryIndex) (r : Round) : Keeps arriving s (s.armEntry i r) :=
  ((startArmed_keeps s i r).mono arriving).trans (arriveImmediate_keeps _ i)

/-! ### Channels and triggers -/

theorem countPeriodEnd_keeps (k : ChannelIndex) (s : State) (i : EntryIndex) :
    Keeps arriving s (s.countPeriodEnd k i) := by
  unfold State.countPeriodEnd
  split
  · refine Keeps.ite ?_ (Keeps.refl _ s)
    exact Keeps.ite (((setEntry_keeps s i _).mono arriving).trans (arriveLocally_keeps _ i))
      ((setEntry_keeps s i _).mono arriving)
  · exact Keeps.refl _ s

theorem deliverPeriodEnd_keeps (s : State) (k : ChannelIndex) : Keeps arriving s (s.deliverPeriodEnd k) :=
  Keeps.foldl (fun s i => countPeriodEnd_keeps k s i) s _

theorem endPeriod_keeps (s : State) (k : ChannelIndex) : Keeps closing s (s.endPeriod k) :=
  Keeps.ite (((setChannel_keeps s k _).mono closing).trans ((deliverPeriodEnd_keeps _ k).mono closing)) (Keeps.refl _ s)

theorem endPhaseWait_keeps (s : State) (k : ChannelIndex) : Keeps [.channels] s (s.endPhaseWait k) :=
  Keeps.ite (setChannel_keeps s k _) (Keeps.refl _ s)

theorem fall_keeps (s : State) (k : ChannelIndex) : Keeps [.channels] s (s.fall k) :=
  Keeps.ite (setChannel_keeps s k _) (Keeps.refl _ s)

theorem takeChange_keeps (s : State) (k : ChannelIndex) (c : ChannelChange) : Keeps closing s (s.takeChange k c) := by
  cases c
  · exact (endPhaseWait_keeps s k).mono closing
  · exact (fall_keeps s k).mono closing
  · exact endPeriod_keeps s k

theorem advanceChannel_keeps (s : State) (k : ChannelIndex) : Keeps closing s (s.advanceChannel k) := by
  unfold State.advanceChannel
  split
  · exact (setChannel_keeps s k _).mono closing
  · exact takeChange_keeps s k _

theorem skipBeats_keeps (s : State) (order : List ChannelIndex) (n : Nat) : Keeps closing s (s.skipBeats order n) :=
  (Keeps.foldl (fun s k => Keeps.ite (advanceChannel_keeps s k) (Keeps.refl _ s)) s _).trans
    (Keeps.foldl (fun s _ => Keeps.foldl (fun s k => advanceChannel_keeps s k) s order) _ _)

theorem applyCorrection_keeps (s : State) (order : List ChannelIndex) :
    Keeps (.timer :: closing) s (s.applyCorrection order) := by
  unfold State.applyCorrection
  split
  · exact Keeps.refl _ s
  · exact (Keeps.ite ((skipBeats_keeps s order _).mono (.timer :: closing)) (Keeps.refl _ s)).trans
      ((setTimer_keeps _ _).mono (.timer :: closing))

theorem deliverEdge_keeps (s : State) (k : InputIndex) (rising : Bool) : Keeps arriving s (s.deliverEdge k rising) :=
  Keeps.foldl (fun s i => by
    split
    · exact Keeps.ite (arriveLocally_keeps s i) (Keeps.refl _ s)
    · exact Keeps.refl _ s) s _

theorem sampleTrigger_keeps (s : State) (k : InputIndex) (high : Bool) :
    Keeps (.triggers :: arriving) s (s.sampleTrigger k high) := by
  unfold State.sampleTrigger
  split
  · exact (setTrigger_keeps s k _).mono (.triggers :: arriving)
  · exact Keeps.ite (Keeps.refl _ s)
      (((setTrigger_keeps s k _).mono (.triggers :: arriving)).trans
        ((deliverEdge_keeps _ k high).mono (.triggers :: arriving)))

/-! ### Agreement -/

theorem testCompletion_keeps (s : State) (i : EntryIndex) : Keeps closing s (s.testCompletion i) := by
  unfold State.testCompletion
  refine Keeps.ite (Keeps.ite ((setEntry_keeps s i _).mono closing) ?_) (Keeps.refl _ s)
  split
  · exact closeEntry_keeps s i _ _
  · exact (setEntry_keeps s i _).mono closing

/-- The blocks that a received arrival entry touches. -/
abbrev hearing : List Block := .counters :: .latches :: closing

theorem recordArrival_keeps (s : State) (i : EntryIndex) (k : Station) (a : ArrivalEntry) :
    Keeps hearing s (s.recordArrival i k a) := by
  simp only [State.recordArrival]
  split
  · exact ((setEntry_keeps s i _).mono hearing).trans ((testCompletion_keeps _ i).mono hearing)
  · exact Keeps.ite (Keeps.refl _ s) ((setCounters_keeps s _).mono hearing)

theorem takeArrival_keeps (s : State) (i : EntryIndex) (k : Station) (a : ArrivalEntry) :
    Keeps hearing s (s.takeArrival i k a) := by
  simp only [State.takeArrival]
  refine Keeps.ite (Keeps.refl _ s)
    (Keeps.ite (Keeps.ite (recordArrival_keeps s i k a) ((raise_keeps s _).mono hearing)) ?_)
  split
  · exact ((setEntry_keeps s i _).mono hearing).trans (recordArrival_keeps _ i k a)
  · exact Keeps.ite (recordArrival_keeps s i k a) ((raise_keeps s _).mono hearing)

theorem hearArrival_keeps (k : Station) (r : Round) (s : State) (a : ArrivalEntry) :
    Keeps hearing s (s.hearArrival k r a) := by
  unfold State.hearArrival
  refine Keeps.ite (Keeps.ite (Keeps.refl _ s) ?_) (Keeps.refl _ s)
  split
  · exact takeArrival_keeps s _ k a
  · exact Keeps.ite (Keeps.refl _ s) ((raise_keeps s _).mono hearing)

theorem hearArrivals_keeps (s : State) (k : Station) (r : Round) (l : List ArrivalEntry) :
    Keeps (.completions :: hearing) s (s.hearArrivals k r l) :=
  tableReaction_keeps s _ (Keeps.foldl (fun s a => hearArrival_keeps k r s a) s l)

/-! ### Peers -/

/-- The blocks that the peer table's work touches, its notice to the rendezvous table included. -/
abbrev losing : List Block := .peers :: .latches :: reacting

theorem closePeers_keeps (s : State) (c : Round) : Keeps losing s (s.closePeers c) := by
  have h : Keeps losing s _ :=
    (Keeps.foldl (l := losing)
      (f := fun s k => if s.peerInUse k = true then s.setPeer k ((s.peer k).closed c s.settings.lossLimit) else s)
      (fun s k => Keeps.ite ((setPeer_keeps s k _).mono losing) (Keeps.refl _ s)) s allSixteen).trans
    ((raisePeers_keeps _ (s.peersThat c fun p q => !p.present && q.present)
      (s.peersThat c fun p q => p.present && !q.present)).mono losing)
  exact Keeps.ite h (h.trans ((lossNotice_keeps _ _).mono losing))

theorem peersBoundary_keeps (s : State) (c : Round) : Keeps losing s (s.peersBoundary c) := by
  unfold State.peersBoundary
  refine Keeps.ite ?_ (Keeps.refl _ s)
  split
  · exact closePeers_keeps s c
  · exact Keeps.ite (((setPeers_keeps s _).mono losing).trans (closePeers_keeps _ c)) (Keeps.refl _ s)

theorem startTracking_keeps (s : State) (r : Round) : Keeps [.peers] s (s.startTracking r) :=
  Keeps.ite (Keeps.refl _ s) (setPeers_keeps s _)

theorem hearPeer_keeps (s : State) (f : Frame) : Keeps [.peers] s (s.hearPeer f) :=
  Keeps.ite (setPeer_keeps s _ _) (Keeps.refl _ s)

theorem departPeer_keeps (s : State) (f : Frame) : Keeps losing s (s.departPeer f) :=
  Keeps.ite
    ((((setPeer_keeps s _ _).mono losing).trans ((raisePeers_keeps _ _ _).mono losing)).trans
      ((lossNotice_keeps _ _).mono losing))
    (Keeps.refl _ s)

/-! ### The line controller -/

/-- The blocks that a change of the line controller's state touches. -/
abbrev entering : List Block := .line :: losing

theorem enter_keeps (s : State) (target : LineState) : Keeps entering s (s.enter target) := by
  have h : Keeps entering s (((s.setLine (s.changedLine target)).settleChannels).raise .stateChange) :=
    (((setLine_keeps s _).mono entering).trans ((settleChannels_keeps _).mono entering)).trans
      ((raise_keeps _ _).mono entering)
  have g : ∀ t r, Keeps entering t (((t.abandonPending r).setPeers PeerTable.cleared).clearRecords) := fun t r =>
    (((abandonPending_keeps t r).mono entering).trans ((setPeers_keeps _ _).mono entering)).trans
      ((setFrames_keeps _ _).mono entering)
  exact Keeps.ite (h.trans (g _ _)) (Keeps.ite (h.trans (g _ _)) h)

/-- Adoption moves line time besides (R11). -/
theorem adopt_keeps (s : State) (f : Frame) : Keeps (.timer :: entering) s (s.adopt f) :=
  ((((((setTimer_keeps s _).mono (.timer :: entering)).trans ((setFrames_keeps _ _).mono (.timer :: entering))).trans
    ((setFrames_keeps _ _).mono (.timer :: entering))).trans ((enter_keeps _ _).mono (.timer :: entering))).trans
      ((startTracking_keeps _ _).mono (.timer :: entering))).trans ((setLine_keeps _ _).mono (.timer :: entering))

theorem yield_keeps (s : State) : Keeps entering s s.yield :=
  Keeps.ite (enter_keeps s _) ((enter_keeps s _).trans ((raise_keeps _ _).mono entering))

theorem exclusionCheck_keeps (s : State) (c : Round) : Keeps entering s (s.exclusionCheck c) :=
  Keeps.ite
    (Keeps.ite ((setLine_keeps s _).mono entering)
      (Keeps.ite (enter_keeps s _) (((setLine_keeps s _).mono entering).trans (enter_keeps _ _))))
    ((setLine_keeps s _).mono entering)

theorem passiveHold_keeps (s : State) (opening : Round) : Keeps entering s (s.passiveHold opening) :=
  Keeps.ite ((setLine_keeps s _).mono entering) ((enter_keeps s _).trans ((setLine_keeps _ _).mono entering))

theorem becomeAlone_keeps (s : State) (opening : Round) : Keeps entering s (s.becomeAlone opening) :=
  (((enter_keeps s _).trans ((startTracking_keeps _ _).mono entering)).trans ((setLine_keeps _ _).mono entering)).trans
    ((raise_keeps _ _).mono entering)

theorem lineBoundary_keeps (s : State) (c opening : Round) (good foreign : StationSet) :
    Keeps entering s (s.lineBoundary c opening good foreign) := by
  unfold State.lineBoundary
  split
  · exact Keeps.refl _ s
  · exact Keeps.refl _ s
  · exact Keeps.ite (becomeAlone_keeps s _) (Keeps.refl _ s)
  · exact Keeps.ite (Keeps.ite (enter_keeps s _) (enter_keeps s _)) (Keeps.refl _ s)
  · exact Keeps.ite (yield_keeps s) (exclusionCheck_keeps s c)
  · exact Keeps.ite (yield_keeps s) (passiveHold_keeps s opening)

/-! ### Firing -/

/-- The blocks that the table's boundary reaction touches, its completions apart. -/
abbrev firing : List Block := .markers :: closing

theorem expireDue_keeps (s : State) (opening : Round) : Keeps closing s (s.expireDue opening) :=
  Keeps.foldl (fun s i => Keeps.ite (closeEntry_keeps s i _ _) (Keeps.refl _ s)) s _

theorem swapChannel_keeps (l : List EntryIndex) (s : State) (k : ChannelIndex) :
    Keeps closing s (s.swapChannel l k) := by
  simp only [State.swapChannel]
  split
  · exact Keeps.refl _ s
  · exact ((setChannel_keeps s k _).mono closing).trans
      (Keeps.foldl (fun s (p : StagedPair) => (setEntry_keeps s p.tag _).mono closing) _ _)

theorem pulseMarkers_keeps (l : List EntryIndex) (s : State) (k : MarkerIndex) :
    Keeps [.markers] s (s.pulseMarkers l k) :=
  Keeps.ite (setMarker_keeps s k _) (Keeps.refl _ s)

theorem takeChain_keeps (opening : Round) (s : State) (i : EntryIndex) : Keeps closing s (s.takeChain opening i) := by
  unfold State.takeChain
  split
  · exact Keeps.refl _ s
  · exact Keeps.ite
      (Keeps.ite (((setEntry_keeps s i _).mono closing).trans ((startArmed_keeps _ _ _).mono closing))
        (closeEntry_keeps s _ _ _))
      (Keeps.refl _ s)

theorem arriveChained_keeps (before s : State) : Keeps arriving s (State.arriveChained before s) :=
  Keeps.foldl (fun s i => Keeps.ite (arriveImmediate_keeps s i) (Keeps.refl _ s)) s _

theorem closeFired_keeps (opening : Round) (s : State) (i : EntryIndex) : Keeps closing s (s.closeFired opening i) :=
  ((setEntry_keeps s i _).mono closing).trans (closeEntry_keeps _ i _ _)

theorem fire_keeps (s : State) (opening : Round) (l : List EntryIndex) : Keeps firing s (s.fire opening l) :=
  ((((Keeps.foldl (fun s k => (swapChannel_keeps l s k).mono firing) s _).trans
    (Keeps.foldl (fun s k => (pulseMarkers_keeps l s k).mono firing) _ _)).trans
      (Keeps.foldl (fun s i => (takeChain_keeps opening s i).mono firing) _ _)).trans
        ((arriveChained_keeps _ _).mono firing)).trans
          (Keeps.foldl (fun s i => (closeFired_keeps opening s i).mono firing) _ _)

theorem tableBoundary_keeps (s : State) (opening : Round) :
    Keeps (.completions :: firing) s (s.tableBoundary opening) :=
  tableReaction_keeps s _ (((expireDue_keeps s opening).mono firing).trans (fire_keeps _ opening _))

/-! ### Frames -/

theorem assemble_keeps (s : State) : Keeps [.frames] s s.assemble :=
  Keeps.ite (setFrames_keeps s _) (Keeps.refl _ s)

theorem commitCarriage_keeps (r : Round) (s : State) (i : EntryIndex) : Keeps closing s (s.commitCarriage r i) :=
  Keeps.ite (((setEntry_keeps s i _).mono closing).trans (testCompletion_keeps _ i)) (Keeps.refl _ s)

/-- The blocks that the start of a transmission touches. -/
abbrev sending : List Block := .line :: .port :: reacting

theorem beginTransmission_keeps (s : State) (f : OwnFrame) : Keeps sending s (s.beginTransmission f) := by
  simp only [State.beginTransmission]
  refine (((setFrames_keeps s _).mono sending).trans ((setLine_keeps _ _).mono sending)).trans
    (((tableReaction_keeps (l := closing) _ _ ?_).mono sending).trans ((noteClosed_keeps _ _).mono sending))
  exact Keeps.foldl (fun s i => commitCarriage_keeps _ s i) _ _

theorem takeOwnOpening_keeps (s : State) : Keeps [.timer, .frames] s s.takeOwnOpening :=
  Keeps.ite (((setTimer_keeps s _).mono [.timer, .frames]).trans ((assemble_keeps _).mono [.timer, .frames]))
    (Keeps.refl _ s)

theorem sendFrame_keeps (s : State) : Keeps sending s s.sendFrame := by
  unfold State.sendFrame
  split
  · exact Keeps.refl _ s
  · exact Keeps.ite (beginTransmission_keeps s _) ((setFrames_keeps s _).mono sending)

theorem ownFrameDone_keeps (s : State) (k : FrameKind) (p : Bool) : Keeps entering s (s.ownFrameDone k p) :=
  Keeps.ite (Keeps.ite (Keeps.refl _ s) (enter_keeps s _))
    (Keeps.ite (((setLine_keeps s _).mono entering).trans (enter_keeps _ _)) (Keeps.refl _ s))

/-- The blocks that the own frame's end touches. -/
abbrev ending : List Block := .counters :: .port :: entering

theorem endOwnFrame_keeps (s : State) (heard : List LineBeat) :
    Keeps ending s (s.endOwnFrame heard) := by
  unfold State.endOwnFrame
  split
  · exact Keeps.refl _ s
  · exact ((((passInstant_keeps s).mono ending).trans ((setFrames_keeps _ _).mono ending)).trans
      ((setCounters_keeps _ _).mono ending)).trans ((ownFrameDone_keeps _ _ _).mono ending)

/-! ### The boundary -/

/-- The blocks that the reactions to a boundary touch. -/
abbrev bounding : List Block := .timer :: .markers :: .port :: entering

theorem openTable_keeps (s : State) (opening : Round) : Keeps bounding s (s.openTable opening) :=
  (((setTimer_keeps s _).mono bounding).trans ((tableBoundary_keeps _ opening).mono bounding)).trans
    ((noteClosed_keeps s _).mono bounding)

theorem reactionOf_keeps (s : State) (opening : Round) (r : RoundRecords) (x : BoundaryReaction) :
    Keeps bounding s (s.reactionOf opening r x) := by
  cases x
  · exact (setFrames_keeps s _).mono bounding
  · exact (peersBoundary_keeps s _).mono bounding
  · exact (lineBoundary_keeps s _ _ _ _).mono bounding
  · exact openTable_keeps s opening
  · exact Keeps.refl _ s

theorem react_keeps (s : State) (x : BoundaryReaction) : Keeps bounding s (s.react x) := by
  unfold State.react
  refine Keeps.ite (Keeps.ite ((takeOwnOpening_keeps s).mono bounding) (Keeps.refl _ s)) ?_
  split
  · exact Keeps.refl _ s
  · exact Keeps.ite (((setTimer_keeps s _).mono bounding).trans (reactionOf_keeps _ _ _ x)) (Keeps.refl _ s)

theorem reachRound_keeps (s : State) : Keeps (.timer :: closing) s s.reachRound :=
  (applyCorrection_keeps s _).trans ((setTimer_keeps _ _).mono (.timer :: closing))

theorem beginBoundary_keeps (s : State) : Keeps (.timer :: closing) s s.beginBoundary := by
  have h : ∀ t, Keeps (.timer :: closing) t
      (match t.timer.boundary with
        | none => t
        | some b =>
          if b.records.isSome = true then t
          else
            (t.setTimer { t.timer with boundary := some { b with records := some t.records } }).setFrames
              { t.frames with good := 0#16, foreign := 0#16, mark := false }) := fun t => by
    split
    · exact Keeps.refl _ t
    · exact Keeps.ite (Keeps.refl _ t)
        (((setTimer_keeps t _).mono (.timer :: closing)).trans ((setFrames_keeps _ _).mono (.timer :: closing)))
  exact (Keeps.ite (Keeps.refl _ s) (reachRound_keeps s)).trans (h _)

theorem takeBoundary_keeps (s : State) (order : List BoundaryReaction) : Keeps bounding s (s.takeBoundary order) :=
  ((beginBoundary_keeps s).mono bounding).trans (Keeps.foldl react_keeps _ order)

end Sys2Proof.Machine
end

