-- ==== Sys2Proof/Laws/Effects.lean ====
section
/-!
SUPPORT. What the shared operations do to the blocks that they touch: one entry, one channel, the announce queue, the
completion queue and the line controller after closing, freeing, arming and arriving, after a change of the line
controller's state, and after a jump. What they leave alone stands in Keeps.lean.
-/

namespace Sys2Proof.Machine

variable (s : State)

/-! ### The lists of all members -/

@[simp] theorem mem_allSixteen (i : Fin 16) : i ∈ allSixteen := by revert i; decide
@[simp] theorem mem_allChannels (k : ChannelIndex) : k ∈ allChannels := by revert k; decide
theorem allSixteen_nodup : allSixteen.Nodup := by decide
theorem allChannels_nodup : allChannels.Nodup := by decide

/-! ### Every channel treated once -/

/-- A change made to each channel of a list, none twice, without settling. -/
theorem State.foldl_setChannels (g : Channel → Channel) (l : List ChannelIndex) (hl : l.Nodup) (s : State)
    (j : ChannelIndex) :
    (l.foldl (fun s k => s.setChannels (s.channels.set k (g (s.channel k)))) s).channel j =
      if j ∈ l then g (s.channel j) else s.channel j := by
  induction l generalizing s with
  | nil => simp
  | cons k l ih =>
    obtain ⟨hk, hl⟩ := List.nodup_cons.mp hl
    rw [List.foldl_cons, ih hl]
    by_cases h : j = k
    · subst h; simp [hk]
    · simp [h]

/-- A change made to each channel of a list, none twice, each settled. -/
theorem State.foldl_setChannel (g : Channel → Channel) (l : List ChannelIndex) (hl : l.Nodup) (s : State)
    (j : ChannelIndex) :
    (l.foldl (fun s k => s.setChannel k (g (s.channel k))) s).channel j =
      if j ∈ l then (g (s.channel j)).settle s.isActive else s.channel j := by
  induction l generalizing s with
  | nil => simp
  | cons k l ih =>
    obtain ⟨hk, hl⟩ := List.nodup_cons.mp hl
    have ha : (s.setChannel k (g (s.channel k))).isActive = s.isActive := rfl
    rw [List.foldl_cons, ih hl, ha]
    by_cases h : j = k
    · subst h; simp [hk]
    · simp [h]

/-- Every channel loses the pair tagged with the entry (R159). -/
@[simp] theorem State.discardStaged_channel (i : EntryIndex) (k : ChannelIndex) :
    (s.discardStaged i).channel k = (s.channel k).discard i := by
  have h := State.foldl_setChannels (fun c => c.discard i) allChannels allChannels_nodup s k
  simpa [State.discardStaged] using h

/-- Every channel is settled (R58, R164). -/
@[simp] theorem State.settleChannels_channel (k : ChannelIndex) :
    s.settleChannels.channel k = (s.channel k).settle s.isActive := by
  have h := State.foldl_setChannel id allChannels allChannels_nodup s k
  simpa [State.settleChannels] using h

@[simp] theorem Channel.discard_staged (c : Channel) (i : EntryIndex) :
    (c.discard i).staged = c.staged.filter fun p => decide (p.tag ≠ i) := rfl
@[simp] theorem Channel.discard_active (c : Channel) (i : EntryIndex) : (c.discard i).active = c.active := rfl
@[simp] theorem Channel.discard_run (c : Channel) (i : EntryIndex) : (c.discard i).run = c.run := rfl

/-! ### Closing and freeing an entry -/

/-- The frame layer holds no entry. -/
theorem State.setFrames_entry (f : FrameLayer) (j : EntryIndex) : (s.setFrames f).entry j = s.entry j := rfl

/-- The frame layer holds no channel. -/
theorem State.setFrames_channel (f : FrameLayer) (k : ChannelIndex) : (s.setFrames f).channel k = s.channel k := rfl

/-- An entry replaced leaves every channel. -/
theorem State.setEntry_channel (i : EntryIndex) (e : Entry) (k : ChannelIndex) :
    (s.setEntry i e).channel k = s.channel k := rfl

@[simp] theorem State.leaveAnnounce_entry (i j : EntryIndex) : (s.leaveAnnounce i).entry j = s.entry j := rfl

theorem State.discardStaged_entries (i : EntryIndex) : (s.discardStaged i).entries = s.entries :=
  discardStaged_keeps s i .entries (by decide)

@[simp] theorem State.discardStaged_entry (i j : EntryIndex) : (s.discardStaged i).entry j = s.entry j := by
  simp [State.entry, State.discardStaged_entries]

theorem State.discardStaged_frames (i : EntryIndex) : (s.discardStaged i).frames = s.frames :=
  discardStaged_keeps s i .frames (by decide)

/-- The entry that closes is DONE with its outcome and reason, and every other entry stands as it stood (R90). -/
theorem State.closeEntry_entry (i j : EntryIndex) (o : EntryOutcome) (r : Option Reason) :
    (s.closeEntry i o r).entry j =
      if j = i then { s.entry i with state := .done, outcome := some o, reason := r } else s.entry j := by
  simp [State.closeEntry]

/-- A closed entry stands in neither part of the announce queue, and the other members keep their places (R90). -/
theorem State.closeEntry_announce (i : EntryIndex) (o : EntryOutcome) (r : Option Reason) :
    (s.closeEntry i o r).frames.announce =
      { uncarried := s.frames.announce.uncarried.filter fun j => decide (j ≠ i)
        carried := s.frames.announce.carried.filter fun j => decide (j ≠ i) } := by
  simp [State.closeEntry, State.discardStaged_frames, State.leaveAnnounce, State.setEntry]

/-- A closed entry's staged sets are discarded (R90, R159). -/
theorem State.closeEntry_channel (i : EntryIndex) (o : EntryOutcome) (r : Option Reason) (k : ChannelIndex) :
    (s.closeEntry i o r).channel k = (s.channel k).discard i := by
  simp only [State.closeEntry, State.discardStaged_channel, State.leaveAnnounce, State.setFrames_channel,
    State.setEntry_channel]

/-- An entry that goes FREE is blank, and every other entry stands as it stood (R91). -/
theorem State.freeEntry_entry (i j : EntryIndex) :
    (s.freeEntry i).entry j = if j = i then Entry.blank else s.entry j := by
  simp only [State.freeEntry, State.setFrames_entry, State.discardStaged_entry, State.leaveAnnounce_entry,
    State.entry_setEntry]

/-- A freed entry's staged sets are discarded (R91, R159). -/
theorem State.freeEntry_channel (i : EntryIndex) (k : ChannelIndex) :
    (s.freeEntry i).channel k = (s.channel k).discard i := by
  simp only [State.freeEntry, State.setFrames_channel, State.discardStaged_channel, State.leaveAnnounce,
    State.setEntry_channel]

/-- Each entry of a list, none twice, that passes a test of its own closes, and the others stand as they stood. -/
theorem State.foldl_close (p : Entry → Prop) [DecidablePred p] (o : EntryOutcome) (r : Option Reason)
    (l : List EntryIndex) (hl : l.Nodup) (s : State) (j : EntryIndex) :
    (l.foldl (fun s i => if p (s.entry i) then s.closeEntry i o r else s) s).entry j =
      if j ∈ l ∧ p (s.entry j) then { s.entry j with state := .done, outcome := some o, reason := r }
      else s.entry j := by
  induction l generalizing s with
  | nil => simp
  | cons i l ih =>
    obtain ⟨hi, hl⟩ := List.nodup_cons.mp hl
    rw [List.foldl_cons, ih hl]
    by_cases h : j = i
    · subst h
      by_cases hp : p (s.entry j)
      · simp [hi, hp, State.closeEntry_entry]
      · simp [hi, hp]
    · by_cases hp : p (s.entry i)
      · simp [h, hp, State.closeEntry_entry]
      · simp [h, hp]

/-- The completions of one reaction are the entries that are DONE behind it and were not before, ascending (R93). -/
theorem State.tableReaction_completions (work : State → State) :
    (s.tableReaction work).completions =
      (work s).completions ++
        allSixteen.filter fun i => decide ((s.entry i).state ≠ .done ∧ ((work s).entry i).state = .done) := rfl

/-- The entries that are DONE after a reaction and were not before. -/
theorem State.mem_newlyDone (before t : State) (i : EntryIndex) :
    i ∈ State.newlyDone before t ↔ (before.entry i).state ≠ .done ∧ (t.entry i).state = .done := by
  simp [State.newlyDone]

/-- What a reaction closed is noted in the port alone (R89). -/
@[simp] theorem State.noteClosed_entry (before t : State) (i : EntryIndex) :
    (State.noteClosed before t).entry i = t.entry i := rfl
@[simp] theorem State.noteClosed_closedNow (before t : State) :
    (State.noteClosed before t).port.closedNow = State.newlyDone before t := rfl

/-- The instant is over for the port, and no entry changes (R183). -/
@[simp] theorem State.passInstant_entry (i : EntryIndex) : s.passInstant.entry i = s.entry i := rfl
@[simp] theorem State.passInstant_closedNow : s.passInstant.port.closedNow = [] := rfl

/-- A reaction's appends change no entry. -/
@[simp] theorem State.tableReaction_entry (work : State → State) (i : EntryIndex) :
    (s.tableReaction work).entry i = (work s).entry i := rfl

/-- A reaction's appends change no channel. -/
@[simp] theorem State.tableReaction_channel (work : State → State) (k : ChannelIndex) :
    (s.tableReaction work).channel k = (work s).channel k := rfl

/-- Every pending entry is DONE, ABANDONED with the reason, and the others stand as they stood (R98, R99). -/
theorem State.abandonPending_entry (r : Reason) (j : EntryIndex) :
    (s.abandonPending r).entry j =
      if (s.entry j).pending = true then
        { s.entry j with state := .done, outcome := some .abandoned, reason := some r }
      else s.entry j := by
  have h := State.foldl_close (fun e => e.pending = true) .abandoned (some r) allSixteen allSixteen_nodup s j
  simpa [State.abandonPending] using h

/-! ### Arriving and arming -/

/-- The local arrival has occurred, and every other entry stands as it stood (R103). -/
theorem State.arriveLocally_entry (i j : EntryIndex) :
    (s.arriveLocally i).entry j = if j = i then { s.entry i with arrived := true } else s.entry j := by
  have h : (s.arriveLocally i).entry j = (s.setEntry i { s.entry i with arrived := true }).entry j := rfl
  rw [h, State.entry_setEntry]

/-- The entry stands at the end of the uncarried part (R28). -/
theorem State.arriveLocally_announce (i : EntryIndex) :
    (s.arriveLocally i).frames.announce =
      { s.frames.announce with uncarried := s.frames.announce.uncarried ++ [i] } := rfl

/-- An armed entry takes its arm round and starts empty; it has arrived exactly when it is IMMEDIATE and the station is
a participant (R84, R104). -/
theorem State.armEntry_entry (i j : EntryIndex) (r : Round) :
    (s.armEntry i r).entry j =
      if j = i then
        { s.entry i with
          state := .armed, armRound := some r
          arrived := decide ((s.entry i).record.condition = .immediate ∧ s.participates (s.entry i) = true)
          records := Vector.replicate 16 none, recordedLead := none, channelCount := 0#8 }
      else s.entry j := by
  have hw : ∀ e : Entry, (s.setEntry i e).awaits e = s.awaits e := fun _ => rfl
  simp only [State.armEntry, State.startArmed, State.arriveImmediate, State.arrivesAtOnce, Bool.and_eq_true,
    decide_eq_true_eq, State.entry_setEntry, if_true, hw]
  by_cases h : (s.entry i).record.condition = .immediate ∧ s.participates (s.entry i) = true
  · have h' : s.participates (s.entry i) = true := h.2
    rw [if_pos ⟨h.1, by simpa [State.awaits, State.participates] using h'⟩]
    simp only [State.arriveLocally_entry, State.entry_setEntry, if_true, h, and_self, decide_true]
    split <;> simp_all
  · rw [if_neg (fun hc => h ⟨hc.1, by simpa [State.awaits, State.participates] using hc.2⟩)]
    simp only [State.entry_setEntry, h, decide_false]

/-- Only the entry itself changes, and only its arrival (R103). -/
theorem State.arriveImmediate_entry (i j : EntryIndex) :
    (s.arriveImmediate i).entry j =
      if j = i ∧ s.arrivesAtOnce i = true then { s.entry i with arrived := true } else s.entry j := by
  unfold State.arriveImmediate
  by_cases h : s.arrivesAtOnce i = true
  · simp [h, State.arriveLocally_entry]
  · simp [h]

/-- A local arrival of one entry does not bear on another (R103). -/
theorem State.arriveLocally_arrivesAtOnce {i j : EntryIndex} (h : j ≠ i) :
    (s.arriveLocally i).arrivesAtOnce j = s.arrivesAtOnce j := by
  have he : (s.arriveLocally i).entry j = s.entry j := by rw [State.arriveLocally_entry, if_neg h]
  have hp : ∀ e, (s.arriveLocally i).awaits e = s.awaits e := fun _ => rfl
  rw [State.arrivesAtOnce, State.arrivesAtOnce, hp, he]

/-- Several entries, each named once, arrive one after another: each of them that waits arrives, no other entry changes,
and the indices join the uncarried part in the order in which the list names them (R103). -/
theorem State.arriveImmediate_foldl (p : EntryIndex → Prop) [DecidablePred p] (l : List EntryIndex) (hl : l.Nodup)
    (s t : State) (ht : t = l.foldl (fun s i => if p i then s.arriveImmediate i else s) s) :
    (∀ j, t.entry j =
        if j ∈ l ∧ p j ∧ s.arrivesAtOnce j = true then { s.entry j with arrived := true } else s.entry j) ∧
      t.frames.announce =
        { s.frames.announce with
          uncarried := s.frames.announce.uncarried ++ l.filter fun i => decide (p i) && s.arrivesAtOnce i } := by
  induction l generalizing s with
  | nil => subst ht; simp
  | cons i l ih =>
    obtain ⟨hi, hl⟩ := List.nodup_cons.mp hl
    rw [List.foldl_cons] at ht
    by_cases h : p i ∧ s.arrivesAtOnce i = true
    · have hs : (if p i then s.arriveImmediate i else s) = s.arriveLocally i := by
        rw [if_pos h.1, State.arriveImmediate, if_pos h.2]
      rw [hs] at ht
      obtain ⟨h1, h2⟩ := ih hl _ ht
      refine ⟨fun j => ?_, ?_⟩
      · by_cases hj : j = i
        · subst hj
          simp [h1, hi, h, State.arriveLocally_entry]
        · simp [h1, hj, State.arriveLocally_entry, State.arriveLocally_arrivesAtOnce s hj]
      · have hf : (l.filter fun j => decide (p j) && (s.arriveLocally i).arrivesAtOnce j) =
            l.filter fun j => decide (p j) && s.arrivesAtOnce j :=
          List.filter_congr fun j hj => by
            have hne : j ≠ i := fun e => hi (e ▸ hj)
            rw [State.arriveLocally_arrivesAtOnce s hne]
        simp [h2, hf, h, State.arriveLocally_announce]
    · have hs : (if p i then s.arriveImmediate i else s) = s := by
        split
        · exact if_neg fun hc => h ⟨‹_›, hc⟩
        · rfl
      rw [hs] at ht
      obtain ⟨h1, h2⟩ := ih hl _ ht
      refine ⟨fun j => ?_, ?_⟩
      · by_cases hj : j = i
        · subst hj
          simp [h1, hi, h]
        · simp [h1, hj]
      · have hq : (decide (p i) && s.arrivesAtOnce i) = false := by simpa using h
        simp [h2, hq]

/-- The IMMEDIATE targets of a boundary's chains arrive, and no other entry changes (R103, R104). -/
theorem State.arriveChained_entry (before : State) (j : EntryIndex) :
    (State.arriveChained before s).entry j =
      if (before.entry j).state = .held ∧ s.arrivesAtOnce j = true then { s.entry j with arrived := true }
      else s.entry j := by
  have hm : ∀ k : EntryIndex, k ∈ allSixteen := by decide
  have h := (State.arriveImmediate_foldl (fun i => (before.entry i).state = .held) allSixteen (by decide) s _ rfl).1 j
  simpa only [State.arriveChained, hm, true_and] using h

/-- They join the uncarried part in ascending order of index (R103). -/
theorem State.arriveChained_announce (before : State) :
    (State.arriveChained before s).frames.announce =
      { s.frames.announce with
        uncarried := s.frames.announce.uncarried ++
          allSixteen.filter fun i => decide ((before.entry i).state = .held) && s.arrivesAtOnce i } :=
  (State.arriveImmediate_foldl (fun i => (before.entry i).state = .held) allSixteen (by decide) s _ rfl).2

/-! ### The line controller and the round timer -/

/-- Every change of state of the line controller raises STATE_CHANGE (R59). -/
theorem State.enter_latches (target : LineState) :
    (s.enter target).latches = s.latches.add Event.stateChange.bit 0#16 0#16 := by
  have h0 : ∀ l : LineController, ((s.setLine l).settleChannels).latches = s.latches := fun l =>
    settleChannels_keeps (s.setLine l) .latches (by decide)
  have h1 : ∀ t r, (((State.abandonPending t r).setPeers PeerTable.cleared).clearRecords).latches = t.latches :=
    fun t r => by
      rw [State.clearRecords, State.setFrames_latches, State.setPeers_latches]
      exact abandonPending_keeps t r .latches (by decide)
  have h2 : (((s.setLine (s.changedLine target)).settleChannels).raise .stateChange).latches =
      s.latches.add Event.stateChange.bit 0#16 0#16 := by
    simp only [State.raise, State.setLatches_latches, h0]
  unfold State.enter
  split
  · rw [h1, h2]
  · split
    · rw [h1, h2]
    · exact h2

/-- What the line controller holds behind a change of state (R37, R39, R49, R55). -/
theorem State.enter_line (target : LineState) : (s.enter target).line = s.changedLine target := by
  have h0 : ∀ l : LineController, (((s.setLine l).settleChannels).raise .stateChange).line = l := fun l =>
    settleChannels_keeps (s.setLine l) .line (by decide)
  have h1 : ∀ t r, (((State.abandonPending t r).setPeers PeerTable.cleared).clearRecords).line = t.line :=
    fun t r => by
      rw [State.clearRecords, State.setFrames_line, State.setPeers_line]
      exact abandonPending_keeps t r .line (by decide)
  unfold State.enter
  split
  · rw [h1, h0]
  · split
    · rw [h1, h0]
    · exact h0 _

/-- A jump replaces line time, discards the correction and what was due, and empties the records (R11, R12, R27). -/
theorem State.jump_timer (round : Round) (slot : Station) (beat : Nat) :
    (s.jump round slot beat).timer =
      { s.timer with
        round := round, slot := slot, beat := beat, correction := none, boundary := none, opening := false
        ownOpening := false } := rfl

/-- Behind a jump the records of the round are empty and no assembled frame waits (R27, log entry 32). -/
theorem State.jump_frames (round : Round) (slot : Station) (beat : Nat) :
    (s.jump round slot beat).frames =
      { s.frames with good := 0#16, foreign := 0#16, mark := false, view := 0#16, assembled := none } := rfl

/-! ### The boundary -/

/-- The assembly is the own slot opening of station 0, taken once (R29). -/
theorem State.react_assembly : s.react .assembly = if s.timer.station = 0 then s.takeOwnOpening else s := rfl

/-- A reaction that the boundary of this instant does not have due does nothing. -/
theorem State.react_taken (x : BoundaryReaction) (hx : x ≠ .assembly) (h : ∀ b, s.timer.boundary = some b → x ∉ b.due) :
    s.react x = s := by
  unfold State.react
  rw [if_neg hx]
  split
  · rfl
  · next b hb => rw [if_neg (h b hb)]

/-- A reaction that is due is crossed off and taken with the records of the closing round (R6, R23). -/
theorem State.react_due (x : BoundaryReaction) (b : Boundary) (hx : x ≠ .assembly) (hb : s.timer.boundary = some b)
    (h : x ∈ b.due) :
    s.react x =
      (s.setTimer { s.timer with boundary := some (b.without x) }).reactionOf b.opening (b.records.getD s.records) x := by
  simp only [State.react, if_neg hx, hb, if_pos h]

/-- An own slot opening that is taken already, or never fell due, is not taken again (R29, R104). -/
theorem State.takeOwnOpening_taken (h : s.timer.ownOpening = false) : s.takeOwnOpening = s := by
  simp [State.takeOwnOpening, h]

/-! ### Completion -/

/-- The test for completion leaves an entry alone unless it is ARMED with every arrival known (R115). -/
theorem State.testCompletion_waits (i : EntryIndex)
    (h : (s.entry i).state ≠ .armed ∨ s.arrivalsKnown (s.entry i) = false) : s.testCompletion i = s := by
  rcases h with h | h <;> simp [State.testCompletion, h]

/-- The test for completion changes no other entry. -/
theorem State.testCompletion_other (i j : EntryIndex) (h : j ≠ i) : (s.testCompletion i).entry j = s.entry j := by
  unfold State.testCompletion
  dsimp only
  split
  · split
    · simp [h]
    · split
      · simp [State.closeEntry_entry, h]
      · simp [h]
  · rfl

end Sys2Proof.Machine
end

