-- ==== Sys2Proof/Laws/PerInstr.lean ====
section
/-!
SUPPORT. Statements made of every command, one lemma for each constructor. `ArgumentCount`: a well-formed row of a port
command carries as many argument bytes as its command takes (Table 47).
-/

namespace Sys2Proof.Laws.ArgumentCount

open Sys2Proof.Machine

-- One lemma after another: side by side, the evaluations of `decide` would each hold a thread.
set_option Elab.async false

/-- A well-formed row that stands for a port command carries the number of argument bytes of Table 47. -/
def Statement (i : Instr) : Prop :=
  ∀ c args, i.portRow = some (c, args) → i.wellFormed = true → args.length = c.argBytes

theorem resetnLow : Statement (.resetnLow) := by
  intro c args h w
  simp [Instr.portRow] at h

theorem resetnRelease straps pcsLow : Statement (.resetnRelease straps pcsLow) := by
  intro c args h w
  simp [Instr.portRow] at h

theorem slotOpens order : Statement (.slotOpens order) := by
  intro c args h w
  simp [Instr.portRow] at h

theorem ownSlotOpens : Statement (.ownSlotOpens) := by
  intro c args h w
  simp [Instr.portRow] at h

theorem sendOffset : Statement (.sendOffset) := by
  intro c args h w
  simp [Instr.portRow] at h

theorem ownFrameEnd heard : Statement (.ownFrameEnd heard) := by
  intro c args h w
  simp [Instr.portRow] at h

theorem frameEnd rx noticeFirst : Statement (.frameEnd rx noticeFirst) := by
  intro c args h w
  simp [Instr.portRow] at h

theorem lineActivityEnd rx : Statement (.lineActivityEnd rx) := by
  intro c args h w
  simp [Instr.portRow] at h

theorem listenTimerExpiry : Statement (.listenTimerExpiry) := by
  intro c args h w
  simp [Instr.portRow] at h

theorem roundBoundary order : Statement (.roundBoundary order) := by
  intro c args h w
  simp [Instr.portRow] at h

theorem triggerEdge input high : Statement (.triggerEdge input high) := by
  intro c args h w
  simp [Instr.portRow] at h

theorem phaseWaitEnd channel : Statement (.phaseWaitEnd channel) := by
  intro c args h w
  simp [Instr.portRow] at h

theorem highToLowChange channel : Statement (.highToLowChange channel) := by
  intro c args h w
  simp [Instr.portRow] at h

theorem periodEnd channel : Statement (.periodEnd channel) := by
  intro c args h w
  simp [Instr.portRow] at h

theorem markerPulseEnd marker : Statement (.markerPulseEnd marker) := by
  intro c args h w
  simp [Instr.portRow] at h

theorem transactionStart : Statement (.transactionStart) := by
  intro c args h w
  simp [Instr.portRow] at h

theorem badCommand byte : Statement (.badCommand byte) := by
  intro c args h w
  simp [Instr.portRow] at h

theorem configure args : Statement (.configure args) := by
  intro c args h w
  simp only [Instr.portRow, Option.some.injEq, Prod.mk.injEq] at h
  obtain ⟨rfl, rfl⟩ := h
  simpa [Instr.wellFormed, PortCommand.argBytes] using w

theorem reset : Statement (.reset) := by
  intro c args h w
  simp only [Instr.portRow, Option.some.injEq, Prod.mk.injEq] at h
  obtain ⟨rfl, rfl⟩ := h
  rfl

theorem readStatus : Statement (.readStatus) := by
  intro c args h w
  simp only [Instr.portRow, Option.some.injEq, Prod.mk.injEq] at h
  obtain ⟨rfl, rfl⟩ := h
  rfl

theorem readCounters : Statement (.readCounters) := by
  intro c args h w
  simp only [Instr.portRow, Option.some.injEq, Prod.mk.injEq] at h
  obtain ⟨rfl, rfl⟩ := h
  rfl

theorem join : Statement (.join) := by
  intro c args h w
  simp only [Instr.portRow, Option.some.injEq, Prod.mk.injEq] at h
  obtain ⟨rfl, rfl⟩ := h
  rfl

theorem leave : Statement (.leave) := by
  intro c args h w
  simp only [Instr.portRow, Option.some.injEq, Prod.mk.injEq] at h
  obtain ⟨rfl, rfl⟩ := h
  rfl

theorem load index record : Statement (.load index record) := by
  intro c args h w
  simp only [Instr.portRow, Option.some.injEq, Prod.mk.injEq] at h
  obtain ⟨rfl, rfl⟩ := h
  simpa [Instr.wellFormed, PortCommand.argBytes] using w

theorem arm index : Statement (.arm index) := by
  intro c args h w
  simp only [Instr.portRow, Option.some.injEq, Prod.mk.injEq] at h
  obtain ⟨rfl, rfl⟩ := h
  rfl

theorem arrive index : Statement (.arrive index) := by
  intro c args h w
  simp only [Instr.portRow, Option.some.injEq, Prod.mk.injEq] at h
  obtain ⟨rfl, rfl⟩ := h
  rfl

theorem cancel index : Statement (.cancel index) := by
  intro c args h w
  simp only [Instr.portRow, Option.some.injEq, Prod.mk.injEq] at h
  obtain ⟨rfl, rfl⟩ := h
  rfl

theorem pop : Statement (.pop) := by
  intro c args h w
  simp only [Instr.portRow, Option.some.injEq, Prod.mk.injEq] at h
  obtain ⟨rfl, rfl⟩ := h
  rfl

theorem readEntry index : Statement (.readEntry index) := by
  intro c args h w
  simp only [Instr.portRow, Option.some.injEq, Prod.mk.injEq] at h
  obtain ⟨rfl, rfl⟩ := h
  rfl

theorem stage channel index set : Statement (.stage channel index set) := by
  intro c args h w
  simp only [Instr.portRow, Option.some.injEq, Prod.mk.injEq] at h
  obtain ⟨rfl, rfl⟩ := h
  simpa [Instr.wellFormed, PortCommand.argBytes] using w

theorem unstage channel index : Statement (.unstage channel index) := by
  intro c args h w
  simp only [Instr.portRow, Option.some.injEq, Prod.mk.injEq] at h
  obtain ⟨rfl, rfl⟩ := h
  rfl

theorem readChannel channel : Statement (.readChannel channel) := by
  intro c args h w
  simp only [Instr.portRow, Option.some.injEq, Prod.mk.injEq] at h
  obtain ⟨rfl, rfl⟩ := h
  rfl

theorem takeEvents : Statement (.takeEvents) := by
  intro c args h w
  simp only [Instr.portRow, Option.some.injEq, Prod.mk.injEq] at h
  obtain ⟨rfl, rfl⟩ := h
  rfl

theorem transactionEnd : Statement (.transactionEnd) := by
  intro c args h w
  simp [Instr.portRow] at h

theorem pckRisingEdge pdi : Statement (.pckRisingEdge pdi) := by
  intro c args h w
  simp [Instr.portRow] at h

theorem triggerSample samples : Statement (.triggerSample samples) := by
  intro c args h w
  simp [Instr.portRow] at h

end Sys2Proof.Laws.ArgumentCount
end

