-- ==== Sys2Proof/Tests/Slice0.lean ====
section
/-!
SUPPORT. Named tests. The first part holds the manual's own values (each comment names the table or rule they come from)
against single commands; the second shows that each check of `Instr.wellFormed` refuses an ill-formed command; the third
shows, for every statement with hypotheses, a concrete state and operands that meet them together.
-/

namespace Sys2Proof.Tests

open Sys2Proof Sys2Proof.Machine

-- One test after another: side by side, the kernel's evaluations would each hold a thread.
set_option Elab.async false

/-! ### States to start from -/

/-- The state after one command. -/
def after (i : Instr) (s : State) : State :=
  match exec i s with
  | .next t => t
  | .fault _ => s
  | .refused _ => s

/-- A station with this number, in this line state and round, joined and tracking its peers where it is synced. -/
def station (k : Station) (l : LineState) (r : Round) : State :=
  { State.reset with
    locked := true
    timer := { RoundTimer.start with station := k, round := r }
    line := { LineController.offline with state := l, listen := if l = .listen then some 1 else none }
    peers := { PeerTable.cleared with tracking := l.synced } }

/-- An entry in a state with some participants and a condition. -/
def entry (st : EntryState) (participants : StationSet) (c : ArrivalCondition) : Entry :=
  { Entry.blank with
    state := st
    record := { LoadedRecord.blank with number := 12#6, epoch := 7#8, participants := participants, condition := c } }

/-- A periodic set. -/
def periodic (period high : BitVec 24) (phase : BitVec 16) : ChannelSet :=
  { ChannelSet.off with mode := .periodic, period := period, high := high, phase := phase }

/-- A burst set. -/
def burst (period high : BitVec 24) (count : BitVec 16) : ChannelSet :=
  { ChannelSet.off with mode := .burst, period := period, high := high, count := count }

/-- A channel that runs a set, at a position. -/
def runningAt (c : ChannelSet) (position periodsRemaining : Nat) : Channel :=
  { Channel.start c [] with run := .running, position := position, periodsRemaining := periodsRemaining }

/-- What LRX carried for a frame, whole, its start mark observed at this beat of this slot. -/
def received (f : Frame) (slot : Station) (beat : Nat) : Reception :=
  { startRound := f.round, startSlot := slot, startBeat := beat, quietBefore := 8, rate := .mbit5
    beats := lineBeats (encodeFrame f), beforeJump := false, meetsOwn := false }

/-- A station at the boundary that closes its round, with these reactions due and the records handed over. -/
def atBoundary (due : List BoundaryReaction) (s : State) : State :=
  { s with
    timer :=
      { s.timer with boundary := some { opening := s.timer.round + 1#16, due := due, records := some s.records } } }

/-- A frame without arrival entries. -/
def plainFrame (kind : FrameKind) (sender : Station) (r : Round) : Frame :=
  { kind := kind, sender := sender, round := r, view := 0x000B#16, arrivals := [] }

/-! ### The manual's values: line time -/

/-- The two pairs of R3's text. -/
theorem test_precedes_examples : precedes 65530#16 4#16 = true ∧ precedes 4#16 65530#16 = false := by decide

/-- Table 8: a good frame observed at beat 37 makes the pending correction +5. -/
theorem test_frameEnd_table8 :
    (after (.frameEnd (received (plainFrame .sync 1 210#16) 1 37) true)
      (station 3 .active 210#16)).timer.correction = some 5 := by decide +kernel

/-- Table 8's note: under −5, channel 2 jumps from 593 to 598 at the corrected opening. -/
theorem test_slotOpens_table8 :
    ((after (.slotOpens allChannels)
      { station 3 .active 210#16 with
        timer := { RoundTimer.start with station := 3, round := 210#16, slot := 1, beat := 507, correction := some (-5) }
        channels := (Vector.replicate 8 Channel.afterReset).set 2 (runningAt (periodic 600#24 300#24 0#16) 593 0) }).channel
      2).position = 598 := by decide +kernel

/-- Section 8.9: the last period end of a burst falls into the skip, and the channel finishes with the pin low; with one
more period it stands at position 2, high. -/
theorem test_slotOpens_burst_skip :
    let at297 := fun n =>
      (after (.slotOpens allChannels)
        { station 1 .active 0#16 with
          timer := { RoundTimer.start with station := 1, correction := some (-5) }
          channels := (Vector.replicate 8 Channel.afterReset).set 2 (runningAt (burst 300#24 100#24 3#16) 297 n) }).channel 2
    ((at297 1).run = .finished ∧ (at297 1).pin = false ∧ (at297 1).periodEnds = 1#16) ∧
      (at297 2).run = .running ∧ (at297 2).position = 2 ∧ (at297 2).pin = true := by decide +kernel

/-- R6: behind slot N − 1 slot 0 opens, and the boundary that closes round 65535 and opens round 0 falls at the
instant. -/
theorem test_slotOpens_wraps :
    let t := (after (.slotOpens allChannels)
      { station 1 .active 65535#16 with timer := { RoundTimer.start with round := 65535#16, slot := 3, beat := 512 } }).timer
    t.slot = 0 ∧ t.round = 65535#16 ∧ t.boundary.map Boundary.opening = some 0#16 := by decide +kernel

/-- R6: station 0 at the end of slot 3 of round 8: an OWN_SLOT_OPENS before anything else carries round 9. -/
theorem test_ownSlotOpens_station0 :
    (after .ownSlotOpens
      { station 0 .active 8#16 with
        timer := { RoundTimer.start with round := 8#16, slot := 3, beat := 512 } }).frames.assembled.map
          (fun f => f.frame.round) = some 9#16 := by decide +kernel

/-- R6: a SLOT_OPENS behind a ROUND_BOUNDARY of the same instant is the opening of slot 0. -/
theorem test_slotOpens_behind_boundary :
    let t := (after (.slotOpens allChannels)
      { station 1 .active 9#16 with timer := { RoundTimer.start with round := 9#16, slot := 0, opening := true } }).timer
    t.slot = 0 ∧ t.opening = false ∧ t.round = 9#16 := by decide +kernel

/-- R104: station 0's own slot opening is taken already, and the boundary does not assemble again. -/
theorem test_roundBoundary_assembles_once :
    (after (.roundBoundary [.table, .assembly]) (atBoundary [.table] (station 0 .active 8#16))).frames.assembled =
      none := by decide +kernel

/-- R53: the eighth boundary in PASSIVE begins integration. -/
theorem test_roundBoundary_passive :
    (after (.roundBoundary [.view, .peers, .line, .table])
      { station 3 .passive 710#16 with
        line := { LineController.offline with state := .passive, hold := 7 } }).line.state = .integrating := by
  decide +kernel

/-- Table 30: the boundary that starts round 1200 on station 2, with two fires, an expiry and two chains. -/
theorem test_roundBoundary_table30 :
    let e := fun (mask : ChannelMask) (mk : MarkerMask) (chain : Option EntryIndex) (fire : Round) (late : Bool) =>
      { entry .complete 0x0006#16 .command with
        record := { (entry .complete 0x0006#16 .command).record with channels := mask, markers := mk, chain := chain }
        fireRound := some fire, late := late }
    let held := fun (mask : ChannelMask) (c : ArrivalCondition) (deadline : BitVec 12) =>
      { entry .held 0x0006#16 c with
        record := { (entry .held 0x0006#16 c).record with channels := mask, deadline := deadline } }
    let pair := fun (i : EntryIndex) => { tag := i, set := periodic 600#24 (BitVec.ofNat 24 i.val) 0#16 : StagedPair }
    let queue := fun (l : List EntryIndex) => { Channel.afterReset with staged := l.map pair }
    let t := after (.roundBoundary [.view, .peers, .line, .table])
      { station 2 .active 1199#16 with
        frames := { FrameLayer.empty with good := 0x0001#16 }
        completions := [0]
        entries :=
          ((((((Vector.replicate 16 Entry.blank).set 2 (e 0x50#8 0x2#2 (some 11) 1200#16 false)).set 5
            (e 0x10#8 0x0#2 (some 7) 1200#16 true)).set 7 (held 0x02#8 .immediate 20#12)).set 9
            { entry .armed 0x0006#16 .command with
              record := { (entry .armed 0x0006#16 .command).record with deadline := 10#12 }
              armRound := some 1190#16 }).set 11 (held 0x08#8 .command 0#12)).set 12 (e 0x40#8 0x1#2 none 1201#16 false)
        channels :=
          (((Vector.replicate 8 Channel.afterReset).set 1 (queue [7])).set 4 (queue [5, 2])).set 6 (queue [2, 12]) }
    t.completions = [0, 2, 5, 9, 11] ∧ (t.channel 4).active.high = 2#24 ∧ (t.channel 4).staged = [] ∧
      (t.channel 6).staged = [pair 12] ∧ (t.entry 5).superseded = 0x10#8 ∧ (t.entry 5).outcome = some .firedLate ∧
      (t.entry 5).chainTaken = true ∧ (t.entry 2).chainTaken = false ∧ (t.entry 11).reason = some .notStaged ∧
      (t.entry 7).deadlineRound = some 1220#16 ∧ t.frames.announce = { uncarried := [7], carried := [] } ∧
      (t.marker 1).remaining = 512 ∧ (t.marker 0).high = false := by decide +kernel

/-! ### The manual's values: frames -/

/-- The note of Table 46: the arrival entry 12, 7, 3, 901 and the header of station 3's frame of round 1000. -/
theorem test_layout_examples :
    encodeArrival { number := 12#6, epoch := 7#8, lead := 3#4, announce := 901#16 } =
        [0x30#8, 0x1C#8, 0xC0#8, 0xE1#8, 0x40#8] ∧
      encodeHeader (plainFrame .sync 3 1000#16) = [0x4C#8, 0x00#8, 0x03#8, 0xE8#8, 0x00#8, 0x0B#8] := by decide +kernel

/-- R20's CRC on the nine digits that the polynomial's check value is published for. -/
theorem test_crc_check_value :
    crc [0x31#8, 0x32#8, 0x33#8, 0x34#8, 0x35#8, 0x36#8, 0x37#8, 0x38#8, 0x39#8] = 0x29B1#16 := by decide +kernel

/-- Station 2 with ten arrivals, as Table 13 has it before round 400. -/
def rotating : State :=
  let mine := fun (o : Option Round) => { entry .armed 0x0006#16 .command with arrived := true, ownAnnounce := o }
  { station 2 .active 400#16 with
    frames :=
      { FrameLayer.empty with announce := { uncarried := [6, 2], carried := [0, 5, 8, 12, 13, 1, 9, 14] } }
    entries := ((Vector.replicate 16 (mine (some 399#16))).set 6 (mine none)).set 2 (mine none) }

/-- Table 13: the frame of round 400 names eight entries, 6 and 2 in carriage. -/
theorem test_ownSlotOpens_table13 :
    (after .ownSlotOpens rotating).frames.assembled.map (fun f => (f.named, f.carriage)) =
      some ([6, 2, 0, 5, 8, 12, 13, 1], [6, 2]) := by decide +kernel

/-- Table 13: the queue behind beat 32, and the announce round of entry 6. -/
theorem test_sendOffset_table13 :
    let t := after .sendOffset (after .ownSlotOpens rotating)
    t.frames.announce = { uncarried := [], carried := [9, 14, 6, 2, 0, 5, 8, 12, 13, 1] } ∧
      (t.entry 6).ownAnnounce = some 400#16 ∧ (t.entry 0).ownAnnounce = some 399#16 := by decide +kernel

/-- R44: the collided COLD frame sends the station back to LISTEN. -/
theorem test_ownFrameEnd_collision :
    (after (.ownFrameEnd [])
      { station 1 .coldstart 0#16 with
        frames :=
          { FrameLayer.empty with
            transmitting := some { kind := .cold, bytes := encodeFrame (plainFrame .cold 1 0#16), elapsed := 80 } } }).line =
      { LineController.offline with state := .listen, listen := some 4608 } := by decide +kernel

/-- R22, R35: a frame observed at beat 49 is foreign, and its sender is noted; R33: one that fell in part into the own
transmission is not received at all. -/
theorem test_frameEnd_outside_window :
    let t := after (.frameEnd (received (plainFrame .sync 1 210#16) 1 49) true) (station 3 .active 210#16)
    let own := { received (plainFrame .sync 1 210#16) 1 49 with meetsOwn := true }
    t.counters.foreign = 1#16 ∧ t.frames.foreign = 0x0002#16 ∧ t.timer.correction = none ∧
      after (.frameEnd own true) (station 3 .active 210#16) = station 3 .active 210#16 := by decide +kernel

/-- Table 15: noise in LISTEN restarts the timer, N = 16 and station 15. -/
theorem test_lineActivityEnd_table15 :
    (after (.lineActivityEnd { received (plainFrame .sync 1 0#16) 1 32 with beats := [] })
      { station 15 .listen 0#16 with
        settings := { Settings.default with size := 16 } }).line.listen = some 24064 := by decide +kernel

/-- R12, R29, R42: the cold start stands at the own slot of round 0 with a COLD frame assembled. -/
theorem test_listenTimerExpiry_coldstart :
    let t := after .listenTimerExpiry (station 2 .listen 77#16)
    t.line.state = .coldstart ∧ t.timer.round = 0#16 ∧ t.timer.slot = 2 ∧ t.timer.beat = 0 ∧
      t.frames.assembled.map (fun f => f.frame.kind) = some .cold := by decide +kernel

/-! ### The manual's values: trigger inputs, channels and markers -/

/-- Station 3 of Table 35, before TG2 rises in round 4410. -/
def waiting : State :=
  { station 3 .active 4410#16 with
    triggers := (Vector.replicate 4 { level := some false, lastEdge := none }).set 2 { level := some false, lastEdge := none }
    entries :=
      ((((Vector.replicate 16 Entry.blank).set 1 (entry .armed 0x0008#16 (.trigger 2 .rising))).set 4
        (entry .armed 0x0008#16 (.trigger 2 .either))).set 9 (entry .armed 0x0008#16 (.trigger 2 .falling))).set 6
        (entry .held 0x0008#16 (.trigger 2 .rising)) }

/-- Table 35: the rise makes entries 1 and 4 arrive. -/
theorem test_triggerEdge_table35 :
    let t := after (.triggerEdge 2 true) waiting
    t.frames.announce.uncarried = [1, 4] ∧ (t.trigger 2).lastEdge = some 4410#16 ∧ (t.entry 6).arrived = false := by
  decide +kernel

/-- R167: the same rise as one sampling instant of all four inputs. -/
theorem test_triggerSample_table35 :
    (after (.triggerSample [(0, false), (1, false), (2, true), (3, false)]) waiting).frames.announce.uncarried = [1, 4] := by
  decide +kernel

/-- Table 33: the phase wait of set B ends with the pin high. -/
theorem test_phaseWaitEnd_table33 :
    let c := (after (.phaseWaitEnd 5)
      { station 1 .active 2001#16 with
        channels := (Vector.replicate 8 Channel.afterReset).set 5 (Channel.start (periodic 400#24 200#24 100#16) []) }).channel 5
    c.run = .running ∧ c.position = 0 ∧ c.pin = true := by decide +kernel

/-- Table 33: set A falls at 250. -/
theorem test_highToLowChange_table33 :
    let c := (after (.highToLowChange 5)
      { station 1 .active 2000#16 with
        channels := (Vector.replicate 8 Channel.afterReset).set 5 (runningAt (burst 1000#24 250#24 3#16) 249 3) }).channel 5
    c.position = 250 ∧ c.pin = false ∧ c.periodsRemaining = 3 := by decide +kernel

/-- Table 33: the period end at T + 2,548 brings entry 10 to its count of 3. -/
theorem test_periodEnd_table33 :
    let t := after (.periodEnd 5)
      { station 1 .active 2001#16 with
        entries :=
          (Vector.replicate 16 Entry.blank).set 10 { entry .armed 0x0002#16 (.channel 5 3#8) with channelCount := 2#8 }
        channels := (Vector.replicate 8 Channel.afterReset).set 5 (runningAt (periodic 400#24 200#24 100#16) 399 0) }
    (t.entry 10).arrived = true ∧ t.frames.announce.uncarried = [10] ∧ (t.channel 5).periodEnds = 1#16 ∧
      (t.channel 5).pin = true := by decide +kernel

/-- R151: the last period end of a burst finishes the channel, low. -/
theorem test_periodEnd_finishes :
    let c := (after (.periodEnd 5)
      { station 1 .active 2000#16 with
        channels := (Vector.replicate 8 Channel.afterReset).set 5 (runningAt (burst 1000#24 250#24 3#16) 999 1) }).channel 5
    c.run = .finished ∧ c.periodsRemaining = 0 ∧ c.pin = false := by decide +kernel

/-- R170: the pulse ends with the marker low. -/
theorem test_markerPulseEnd_low :
    let t := after (.markerPulseEnd 0)
      { State.reset with markers := Vector.replicate 2 { high := true, remaining := 0 } }
    (t.marker 0).high = false ∧ (t.marker 1).high = true := by decide +kernel

/-! ### The manual's values: the port -/

/-- Table 43: released with PCS low, the port waits for PCS to rise, which raises no PORT_ABORT. -/
theorem test_resetnRelease_table43 :
    let s := after (.resetnRelease 2#4 true) State.held
    s.port.state = .deselectWait ∧ s.timer.station = 2 ∧ (after .transactionEnd s).port.state = .idle ∧
      (after .transactionEnd s).latches.latched = 0#8 := by decide +kernel

/-- R14: RESETN low empties the station. -/
theorem test_resetnLow_clears :
    let t := after .resetnLow waiting
    t.resetHeld = true ∧ (t.entry 1).state = .free ∧ t.line.state = .offline := by decide +kernel

/-- R178: PCS falls. -/
theorem test_transactionStart_command : (after .transactionStart State.reset).port.state = .command := by decide +kernel

/-- R182, Table 43: PCS rises within the arguments of a LOAD. -/
theorem test_transactionEnd_aborts :
    (after .transactionEnd
      { State.reset with port := { Port.idle with state := .arguments, args := [0#8, 0#8] } }).latches.latched = 0x01#8 := by
  decide +kernel

/-- R179: a byte that names no command. -/
theorem test_badCommand_answer : (after (.badCommand 0x14#8) State.reset).port.snapshot = some [0x01#8] := by
  decide +kernel

/-- R178: a bit joins the byte behind the bits before it. -/
theorem test_pckRisingEdge_shifts :
    let p := (after (.pckRisingEdge true)
      { State.reset with port := { Port.idle with state := .command, bits := 2, shift := 0b10#8 } }).port
    p.shift = 0b101#8 ∧ p.bits = 3 := by decide +kernel

/-- Table 43: CONFIGURE N = 6, 10 Mbit/s, loss limit 4, default lead 3, mask all, in the bytes of Table 49. -/
theorem test_configure_table43 :
    let t := after (.configure [0x06#8, 0x03#8, 0x43#8, 0xFF#8]) State.reset
    t.settings = { size := 6, rate := .mbit10, lossLimit := 4, defaultLead := 3#4, mask := 0xFF#8 } ∧
      t.timer.size = 6 ∧ t.port.snapshot = some [0x00#8] := by decide +kernel

/-- R194: rate code 4 names no rate. -/
theorem test_configure_rate_code :
    (after (.configure [0x06#8, 0x04#8, 0x43#8, 0xFF#8]) State.reset).port.snapshot = some [0x02#8] := by decide +kernel

/-- R191: RESET leaves the round and keeps the configuration. -/
theorem test_reset_keeps_station :
    let t := after .reset (station 3 .active 900#16)
    t.line.state = .offline ∧ t.timer.station = 3 ∧ t.locked = false := by decide +kernel

/-- Table 52: byte 0 of an ACTIVE, locked station is 14h, byte 1 its number, bytes 2 and 3 its round. -/
theorem test_readStatus_bytes :
    (after .readStatus (station 3 .active 900#16)).port.snapshot.map (fun l => l.take 5) =
      some [0x00#8, 0x14#8, 0x03#8, 0x03#8, 0x84#8] := by decide +kernel

/-- R188: between the reactions of one boundary the view of the closing round stands beside its number. -/
theorem test_readStatus_at_boundary :
    (after .readStatus
      (after (.roundBoundary [.view])
        (atBoundary [.view, .table] { station 3 .active 900#16 with
          frames := { FrameLayer.empty with good := 0x0002#16 } }))).port.snapshot.map (fun l => (l.drop 3).take 4) =
      some [0x03#8, 0x84#8, 0x00#8, 0x02#8] := by decide +kernel

/-- Table 43: READ COUNTERS reports 316 good frames, and its commit clears the 317 there are by then. -/
theorem test_readCounters_table43 :
    (after .readCounters { State.reset with counters := { Counters.zero with good := 316#16 } }).port.snapshot.map
        (fun l => l.take 3) = some [0x00#8, 0x01#8, 0x3C#8] ∧
      (after .transactionEnd
        { State.reset with
          counters := { Counters.zero with good := 317#16 }
          port := { Port.idle with state := .trailing, commit := some .readCounters } }).counters = Counters.zero := by
  decide +kernel

/-- Table 43: JOIN enters LISTEN, locks the configuration and latches STATE_CHANGE. -/
theorem test_join_table43 :
    let t := after .join State.reset
    t.line.state = .listen ∧ t.line.listen = some 4096 ∧ t.locked = true ∧ t.latches.latched = 0x80#8 := by decide +kernel

/-- R54: LEAVE in ACTIVE waits for the LEAVE frame. -/
theorem test_leave_active :
    let t := after .leave (station 1 .active 5#16)
    t.line.state = .active ∧ t.line.leavePending = true ∧ t.port.snapshot = some [0x00#8] := by decide +kernel

/-- The record of Table 25's first row, in the bytes of Table 50. -/
def record12 : List Byte :=
  [0x0C#8, 0x07#8, 0x00#8, 0x0B#8, 0x40#8, 0x00#8, 0x10#8, 0x00#8, 0x28#8, 0x04#8, 0x01#8, 0x00#8]

/-- Table 25: LOAD 3 is HELD, and the same number and epoch in entry 4 is a DUPLICATE. -/
theorem test_load_table25 :
    let t := after (.load 0x03#8 record12) (station 1 .active 899#16)
    (t.entry 3).state = .held ∧ (t.entry 3).record.deadline = 40#12 ∧ (t.entry 3).record.late = .apply ∧
      (after (.load 0x04#8 record12) { t with port := Port.idle }).port.snapshot = some [0x0A#8] := by decide +kernel

/-- Station 1 of Table 25 with entry 3 HELD. -/
def loaded3 (st : EntryState) (staged : List StagedPair) : State :=
  { station 1 .active 900#16 with
    entries :=
      (Vector.replicate 16 Entry.blank).set 3
        { Entry.blank with
          state := st, record := (decodeRecord record12).getD LoadedRecord.blank
          armRound := if st = .held then none else some 900#16 }
    channels := (Vector.replicate 8 Channel.afterReset).set 2 { Channel.afterReset with staged := staged } }

/-- Table 25: ARM without the staged set, and with it. -/
theorem test_arm_table25 :
    (after (.arm 0x03#8) (loaded3 .held [])).port.snapshot = some [0x09#8] ∧
      let t := after (.arm 0x03#8) (loaded3 .held [{ tag := 3, set := ChannelSet.off }])
      (t.entry 3).armRound = some 900#16 ∧ (t.entry 3).deadlineRound = some 940#16 := by decide +kernel

/-- R86: at the boundary that closes round 900, ARM 3 is armed in round 900 before the table's reaction, in 901 behind
it. -/
theorem test_arm_at_boundary :
    let s := loaded3 .held [{ tag := 3, set := ChannelSet.off }]
    ((after (.arm 0x03#8) (atBoundary [.table] s)).entry 3).armRound = some 900#16 ∧
      ((after (.arm 0x03#8) (after (.roundBoundary [.table]) (atBoundary [.table] s))).entry 3).armRound =
        some 901#16 := by decide +kernel

/-- Table 25: ARRIVE 3 joins the uncarried part. -/
theorem test_arrive_table25 :
    let t := after (.arrive 0x03#8) (loaded3 .armed [{ tag := 3, set := ChannelSet.off }])
    (t.entry 3).arrived = true ∧ t.frames.announce = { uncarried := [3], carried := [] } := by decide +kernel

/-- Table 25: CANCEL 3 in carriage is COMMITTED; a HELD entry goes FREE and queues nothing. -/
theorem test_cancel_table25 :
    (after (.cancel 0x03#8)
        (after .ownSlotOpens
          { loaded3 .armed [] with
            frames := { FrameLayer.empty with announce := { uncarried := [3], carried := [] } } })).port.snapshot =
        some [0x0B#8] ∧
      let t := after (.cancel 0x03#8) (loaded3 .held [])
      (t.entry 3).state = .free ∧ t.completions = [] := by decide +kernel

/-- R89: entry 3, committed and MISSED by the boundary of this instant, is refused COMMITTED, also behind the view's reaction
to it; past the instant, be it a slot opening or an answered port command later, it is refused WRONG_STATE
(R88, R183). -/
theorem test_cancel_at_boundary :
    let s := atBoundary [.view, .table] (loaded3 .complete [])
    let missed := after (.roundBoundary [.table])
      { s with
        entries := s.entries.set 3
          { s.entry 3 with arrived := true, ownAnnounce := some 899#16, fireRound := some (s.timer.round + 1#16)
                           late := true } }
    let answer := fun (t : State) => (after (.cancel 0x03#8) t).port.snapshot
    (missed.entry 3).state = .done ∧ answer missed = some [0x0B#8] ∧
      answer (after (.roundBoundary [.view]) missed) = some [0x0B#8] ∧
      answer (after (.slotOpens allChannels) missed) = some [0x04#8] ∧
      answer (after .transactionEnd (after (.readEntry 0x03#8) missed)) = some [0x04#8] := by decide +kernel

/-- Table 25: POP reports entry 3, 12/7, ABANDONED, RESYNC. -/
theorem test_pop_table25 :
    (after .pop
      { loaded3 .done [] with
        completions := [3]
        entries := (loaded3 .done []).entries.set 3
          { (loaded3 .done []).entry 3 with
            outcome := some .abandoned, reason := some .resync } }).port.snapshot =
      some [0x00#8, 0x03#8, 0x0C#8, 0x07#8, 0x53#8, 0x00#8, 0x00#8, 0x00#8, 0x00#8] := by decide +kernel

/-- Section 11.4: bytes 0, 1, 14 to 17 and 26 to 29 of entry 3 in round 902. -/
theorem test_readEntry_section11 :
    (after (.readEntry 0x03#8)
      { loaded3 .armed [] with
        frames := { FrameLayer.empty with announce := { uncarried := [], carried := [3] } }
        entries := (loaded3 .armed []).entries.set 3
          { (loaded3 .armed []).entry 3 with
            arrived := true, ownAnnounce := some 901#16
            records := (Vector.replicate 16 none).set 0 (some 901#16) } }).port.snapshot.map
        (fun l => ((l.drop 1).take 2, (l.drop 15).take 4, (l.drop 27).take 4)) =
      some ([0xA2#8, 0xC0#8], [0x03#8, 0x84#8, 0x03#8, 0x85#8], [0x00#8, 0x01#8, 0x03#8, 0x85#8]) := by decide +kernel

/-- Channel 4 of station 2 with the staged queue of Table 34. -/
def staging (tags : List EntryIndex) : State :=
  { station 2 .active 0#16 with
    entries :=
      Vector.replicate 16
        { entry .held 0x0004#16 .command with
          record := { (entry .held 0x0004#16 .command).record with channels := 0x10#8 } }
    channels :=
      (Vector.replicate 8 Channel.afterReset).set 4
        { Channel.afterReset with staged := tags.map fun i => { tag := i, set := ChannelSet.off } } }

/-- Table 34: a restaged set keeps its place, and the fifth pair is refused FULL. -/
theorem test_stage_table34 :
    ((after (.stage 0x04#8 0x05#8 (encodeSet (periodic 600#24 300#24 0#16))) (staging [5, 3, 7])).channel 4).staged.map
        (fun p => (p.tag, p.set.period)) = [(5, 600#24), (3, 0#24), (7, 0#24)] ∧
      (after (.stage 0x04#8 0x0B#8 (encodeSet ChannelSet.off)) (staging [5, 3, 7, 9])).port.snapshot = some [0x06#8] := by
  decide +kernel

/-- Table 34: UNSTAGE closes the queue up. -/
theorem test_unstage_table34 :
    ((after (.unstage 0x04#8 0x03#8) (staging [5, 3, 7, 9])).channel 4).staged.map StagedPair.tag = [5, 7, 9] := by
  decide +kernel

/-- Table 55: a channel in RUNNING at position 48 with the pin high and one staged pair. -/
theorem test_readChannel_bytes :
    (after (.readChannel 0x05#8)
      { station 1 .active 0#16 with
        channels :=
          (Vector.replicate 8 Channel.afterReset).set 5
            { runningAt (burst 1000#24 250#24 3#16) 48 1 with
              pin := true, periodEnds := 2#16, staged := [{ tag := 8, set := periodic 400#24 200#24 100#16 }] } }).port.snapshot.map
        (fun l => ((l.drop 1).take 1, (l.drop 12).take 10, l.length)) =
      some ([0xC0#8], [0x91#8, 0x00#8, 0x00#8, 0x30#8, 0x00#8, 0x01#8, 0x00#8, 0x02#8, 0x08#8, 0x80#8], 68) := by
  decide +kernel

/-- Table 43: TAKE EVENTS reports STATE_CHANGE, PORT_ABORT and PEER_JOINED, with the peers. -/
theorem test_takeEvents_table43 :
    (after .takeEvents
      { State.reset with latches := { Latches.empty with latched := 0xC1#8, joined := 0x0003#16 } }).port.snapshot =
      some [0x00#8, 0xC1#8, 0x00#8, 0x03#8, 0x00#8, 0x00#8] := by decide +kernel

/-- Table 26: station 0 records station 1's arrival in round 301 and completes for round 303. -/
theorem test_frameEnd_table26 :
    let mine := { entry .armed 0x0003#16 .command with arrived := true, ownAnnounce := some 300#16 }
    let heard : Frame :=
      { plainFrame .sync 1 301#16 with
        arrivals := [{ number := 12#6, epoch := 7#8, lead := 2#4, announce := 301#16 }] }
    let e := (after (.frameEnd (received heard 1 32) true)
      { station 0 .active 301#16 with
        entries := (Vector.replicate 16 Entry.blank).set 0 { mine with record := { mine.record with lead := 2#4 } } }).entry 0
    e.state = .complete ∧ e.fireRound = some 303#16 ∧ e.late = false := by decide +kernel

/-! ### Well-formed commands: every check refuses an ill-formed one -/

theorem test_wf_channel_order_repeats :
    (Instr.slotOpens [0, 1, 2, 3, 4, 5, 6, 6]).wellFormed = false ∧ (Instr.slotOpens allChannels).wellFormed = true := by
  decide

theorem test_wf_channel_order_short : (Instr.slotOpens [0, 1, 2]).wellFormed = false := by decide

theorem test_wf_reactions_part : (Instr.roundBoundary [.table, .line, .assembly]).wellFormed = true := by decide

theorem test_wf_reactions_repeat : (Instr.roundBoundary [.view, .peers, .line, .table, .view]).wellFormed = false := by
  decide

theorem test_wf_badCommand_known : (Instr.badCommand 0x10#8).wellFormed = false := by decide

theorem test_wf_configure_length : (Instr.configure [0x04#8, 0x02#8, 0x33#8]).wellFormed = false := by decide

theorem test_wf_load_length : (Instr.load 0#8 (List.replicate 11 0#8)).wellFormed = false := by decide

theorem test_wf_stage_length : (Instr.stage 0#8 0#8 (List.replicate 12 0#8)).wellFormed = false := by decide

theorem test_wf_samples_repeat :
    (Instr.triggerSample [(0, true), (0, false), (1, true), (2, true)]).wellFormed = false := by decide

theorem test_wf_samples_short : (Instr.triggerSample [(0, true)]).wellFormed = false := by decide

/-- No word spells a command: the table gives no row bits (log entry 28). -/
theorem test_decode_none : decodeTableWord 8 0x10 = none := by decide

/-! ### Witnesses: states and operands that meet the hypotheses of each statement, clause by clause

Each theorem is named after its statement, and its conjuncts are the hypotheses of the statement's clauses, at values on
the boundary of their ranges. Statements without hypotheses have none. -/

/-- A station with these channels in front. -/
def withChannels (s : State) (c0 c1 : Channel) : State :=
  { s with channels := ((Vector.replicate 8 Channel.afterReset).set 0 c0).set 1 c1 }

/-- A station with these entries 0 and 1. -/
def withEntries (s : State) (e0 e1 : Entry) : State :=
  { s with entries := ((Vector.replicate 16 Entry.blank).set 0 e0).set 1 e1 }

/-- A station at this position of line time, with a correction. -/
def atTime (s : State) (slot : Station) (beat : Nat) (correction : Option Int) : State :=
  { s with timer := { s.timer with slot := slot, beat := beat, correction := correction } }

/-- A station whose port is at this state. -/
def withPort (s : State) (p : Port) : State := { s with port := p }

/-- A reception whose frame is cut off after the start mark. -/
def cutOff : Reception := { received (plainFrame .sync 1 0#16) 1 32 with beats := (lineBeats [0x44#8]) }

/-- Activity that is not a frame: too little silence before it. -/
def noise : Reception := { received (plainFrame .sync 1 0#16) 1 32 with quietBefore := 7 }

theorem witness_StepTakesFrontCommand :
    ({ State.reset with pending := [.join, .leave] }).pending = .join :: [.leave] := by decide

theorem witness_IdleStepTakesDueEventOrBeat :
    (State.reset.pending = [] ∧ State.reset.resetHeld = false ∧ State.reset.dueEvents = []) ∧
      let s := { State.reset with markers := Vector.replicate 2 { high := true, remaining := 0 } }
      s.pending = [] ∧ s.resetHeld = false ∧ s.dueEvents ≠ [] := by decide +kernel

/-- States in which each event is due: the end of a slot of 512 beats under +16, and none a beat before; a boundary's
reaction; the own slot; beat 32 with a frame; a frame's last beat; the listen timer at 0; each change of a channel that is
owed; and a marker with no length left. -/
theorem witness_IdleStepTakesDueEventOrBeat_due :
    let base := station 1 .active 9#16
    let owed := fun (c : Channel) => (withChannels base { c with owed := true } Channel.afterReset).dueEvents
    let slot := fun (beat : Nat) => (atTime base 0 beat (some 16)).dueEvents
    let sends := fun (n : Nat) => ({ base with frames := { FrameLayer.empty with
      transmitting := some { kind := .sync, bytes := encodeFrame (plainFrame .sync 1 9#16), elapsed := n } } }).dueEvents
    (slot 527 = [] ∧ (slot 528).length = 1) ∧
      (after (.slotOpens allChannels) (atTime base 3 512 none)).dueEvents =
        [.roundBoundary [.view], .roundBoundary [.peers], .roundBoundary [.line], .roundBoundary [.table]] ∧
      .ownSlotOpens ∈ (after (.slotOpens allChannels) (atTime base 0 512 none)).dueEvents ∧
      (let s := after .ownSlotOpens (after (.slotOpens allChannels) (atTime base 0 512 none));
        (atTime s 1 31 none).dueEvents = [] ∧ (atTime s 1 32 none).dueEvents = [.sendOffset]) ∧
      (sends 79 = [] ∧ (sends 80).length = 1) ∧
      (after .join (station 1 .offline 9#16)).dueEvents = [] ∧
      ({ station 1 .listen 9#16 with line := { LineController.offline with state := .listen, listen := some 0 } }).dueEvents =
        [.listenTimerExpiry] ∧
      owed { Channel.start (periodic 600#24 300#24 2#16) [] with phaseRemaining := 1 } = [.phaseWaitEnd 0] ∧
      owed (runningAt (periodic 600#24 300#24 0#16) 299 0) = [.highToLowChange 0] ∧
      owed (runningAt (periodic 600#24 300#24 0#16) 599 0) = [.periodEnd 0] ∧
      ({ base with markers := Vector.replicate 2 { high := true, remaining := 0 } }).dueEvents =
        [.markerPulseEnd 0, .markerPulseEnd 1] := by decide +kernel

theorem witness_HeldStationIgnoresCommands :
    State.held.resetHeld = true ∧ Instr.join ≠ .resetnLow ∧ ∀ straps low, Instr.join ≠ .resetnRelease straps low :=
  ⟨rfl, by simp, by simp⟩

/-- Channel 0 runs at the last position but one of its period, and channel 1 has two beats to wait; the second state is
in the hold of a positive correction. -/
theorem witness_IdleBeatCounts :
    let s := withChannels (station 1 .active 0#16) (runningAt (periodic 600#24 300#24 0#16) 598 0)
      { Channel.start (periodic 600#24 300#24 2#16) [] with phaseRemaining := 2 }
    let t := atTime s 1 516 (some 5)
    (s.pending = [] ∧ s.resetHeld = false ∧ s.dueEvents = [] ∧ s.timer.beat < 512 ∧
      (s.channel 0).owed = false ∧ (s.channel 0).run = .running ∧
      (s.channel 0).position + 1 < (s.channel 0).active.period.toNat ∧
      (s.channel 0).position + 1 ≠ (s.channel 0).active.high.toNat ∧
      (s.channel 1).owed = false ∧ (s.channel 1).run = .waiting ∧ 1 < (s.channel 1).phaseRemaining ∧
      (s.passBeat.channel 0).position = 599 ∧ (s.passBeat.channel 1).phaseRemaining = 1 ∧
      (s.passBeat.passBeat.channel 0).owed = true ∧ (s.passBeat.passBeat.channel 1).owed = true) ∧
    (t.pending = [] ∧ t.resetHeld = false ∧ t.dueEvents = [] ∧ 512 ≤ t.timer.beat) := by decide +kernel

theorem witness_PortResetKeepsConfiguration :
    State.reset.Ready ∧ (withPort State.reset { Port.idle with state := .arguments }).Ready := by decide +kernel

/-- Slots 0 and 2, and the last one, of a round of 4; the last of a round of 16; corrections of 0 and 16 beats; and a
slot that a ROUND_BOUNDARY has opened. -/
theorem witness_SlotOpensAdvancesLineTime :
    let ok := fun (s : State) => s.resetHeld = false ∧ 2 ≤ s.timer.size ∧ s.timer.size ≤ 16 ∧ s.timer.opening = false ∧
      ∀ d ∈ s.timer.correction, 0 ≤ d
    let big := { State.reset with timer := { RoundTimer.start with size := 16, slot := 15 } }
    (ok State.reset ∧ State.reset.timer.slot.val + 1 < State.reset.timer.size) ∧
      (let s := atTime State.reset 2 528 (some 16); ok s ∧ s.timer.slot.val + 1 < s.timer.size) ∧
      (let s := atTime State.reset 3 512 (some 0); ok s ∧ s.timer.size ≤ s.timer.slot.val + 1) ∧
      (ok big ∧ big.timer.size ≤ big.timer.slot.val + 1) ∧
      (after (.roundBoundary [.table]) (atTime State.reset 3 512 none)).timer.opening = true := by decide +kernel

/-- The three commands under −16 and −1, at slots 0 and N − 1 and at a boundary that another command is to bring about. -/
theorem witness_NegativeCorrectionSkipsChannels :
    let ok := fun (s : State) (d : Int) => s.resetHeld = false ∧ s.timer.correction = some d ∧ d < 0
    let s := atTime State.reset 0 496 (some (-16))
    let last := atTime (station 1 .active 9#16) 3 511 (some (-1))
    (ok s (-16) ∧ s.timer.opening = false ∧ 2 ≤ s.timer.size ∧ s.timer.size ≤ 16) ∧
      (ok last (-1) ∧ last.timer.opening = false ∧ last.timer.dueBoundary = none ∧
        last.timer.station.val < last.timer.size ∧ last.timer.slot ≠ last.timer.station) ∧
      (let own := atTime State.reset 0 496 (some (-16)); ok own (-16) ∧ own.timer.beat ≠ 0) := by decide +kernel

/-- Channels under a skip of 16 beats: IDLE; WAITING for 17 beats and for 16; RUNNING at the last position of the
shortest period; a burst with 9 and with 8 periods to go at position 1 of a period of 2; and one that a change is owed. -/
theorem witness_NegativeCorrectionSkipsChannels_places :
    let wait := fun n : Nat => { Channel.start (periodic 2#24 1#24 16#16) [] with phaseRemaining := n }
    let two := runningAt (periodic 2#24 1#24 0#16) 1 0
    let goes := runningAt (burst 2#24 1#24 9#16) 1 9
    let ends := runningAt (burst 2#24 1#24 9#16) 1 8
    Channel.afterReset.run = .idle ∧ ((wait 17).run = .waiting ∧ 16 < (wait 17).phaseRemaining) ∧
      ((wait 16).run = .waiting ∧ 1 ≤ (wait 16).phaseRemaining ∧ (wait 16).phaseRemaining ≤ 16 ∧
        0 < (wait 16).active.period.toNat) ∧
      (two.run = .running ∧ two.position < two.active.period.toNat ∧ two.active.mode ≠ .burst) ∧
      (goes.run = .running ∧ goes.active.mode = .burst ∧ (goes.position + 16) / 2 < goes.periodsRemaining) ∧
      (ends.active.mode = .burst ∧ 1 ≤ ends.periodsRemaining ∧ ends.periodsRemaining ≤ (ends.position + 16) / 2) ∧
      ({ two with owed := true }).owed = true := by decide +kernel

/-- An entry that a skipped period makes arrive, and one that the skip leaves as it is. -/
theorem witness_NegativeCorrectionSkipsChannels_entries :
    let s := withEntries (withChannels (atTime (station 1 .active 9#16) 2 511 (some (-1)))
        (runningAt (periodic 2#24 1#24 0#16) 1 0) Channel.afterReset)
      (entry .armed 0x0002#16 (.channel 0 1#8)) (entry .armed 0x0002#16 .command)
    ((s.entry 0).state = .armed ∧ s.participates (s.entry 0) = true ∧ (s.entry 0).arrived = false ∧
        ((after (.slotOpens allChannels) s).entry 0).arrived = true) ∧
      ∀ k n, (s.entry 1).record.condition ≠ .channel k n := by
  refine ⟨by decide +kernel, fun k n h => ?_⟩
  cases h

theorem witness_RoundArithmetic :
    (State.reset.resetHeld = false ∧ State.reset.timer.boundary = none ∧
        .table ∈ ([.view, .table] : List BoundaryReaction) ∧ .table ∉ ([.view] : List BoundaryReaction)) ∧
      (let s := atTime State.reset 3 512 none;
        s.resetHeld = false ∧ s.timer.opening = false ∧ s.timer.boundary = none ∧ s.timer.size ≤ s.timer.slot.val + 1) ∧
      (40000#16 - 7232#16 = 32768#16) ∧ precedes 0#16 32767#16 = true ∧ precedes 1#16 0#16 = false := by decide +kernel

/-- Own slot openings that are due, one of them at a boundary, one that is taken, one that is not reached, and a number
of N. -/
theorem witness_OwnSlotOpensAssembles :
    let due := fun (s : State) => { s with timer := { s.timer with slot := s.timer.station, ownOpening := true } }
    let at0 := fun (s : State) => s.resetHeld = false ∧ s.timer.station.val < s.timer.size ∧
      s.timer.slot = s.timer.station ∧ s.timer.beat = 0
    (at0 (due (station 3 .coldstart 0#16)) ∧ (due (station 3 .coldstart 0#16)).line.state = .coldstart ∧
        (due (station 3 .coldstart 0#16)).timer.ownOpening = true ∧
        (due (station 3 .coldstart 0#16)).timer.boundary = none) ∧
      (let s := due (atBoundary [.line] (station 0 .active 8#16));
        at0 s ∧ s.line.state = .active ∧ s.timer.boundary.isSome = true) ∧
      (let s := due (station 3 .passive 0#16);
        at0 s ∧ s.timer.ownOpening = true ∧ s.line.state ≠ .coldstart ∧ s.line.state ≠ .active) ∧
      (at0 State.reset ∧ State.reset.timer.ownOpening = false) ∧
      (rotating.timer.station.val < rotating.timer.size ∧ rotating.timer.slot ≠ rotating.timer.station ∧
        rotating.timer.correction = none) ∧
      (station 4 .offline 0#16).timer.size ≤ (station 4 .offline 0#16).timer.station.val := by decide +kernel

/-- A frame with entry 6 in carriage, one with nothing in carriage, and one waiting when the station is PASSIVE. -/
theorem witness_SendOffsetTransmitsOrDrops :
    (let s := after .ownSlotOpens rotating;
      s.resetHeld = false ∧ s.timer.station.val < s.timer.size ∧ s.line.state = .active ∧
        s.frames.assembled.map OwnFrame.carriage = some [6, 2] ∧ (s.entry 6).pending = true) ∧
      (let s := after .ownSlotOpens (station 3 .coldstart 0#16);
        s.line.state = .coldstart ∧ s.frames.assembled.map OwnFrame.carriage = some []) ∧
      (let s := { after .ownSlotOpens rotating with line := { LineController.offline with state := .passive } };
        s.line.state ≠ .coldstart ∧ s.line.state ≠ .active ∧ s.frames.assembled.isSome = true) := by decide +kernel

/-- A station that sends a frame of this kind. -/
def sending (k : Station) (l : LineState) (kind : FrameKind) : State :=
  { station k l 0#16 with
    frames :=
      { FrameLayer.empty with
        transmitting := some { kind := kind, bytes := encodeFrame (plainFrame kind k 0#16), elapsed := 80 } } }

/-- The frame that such a station sends. -/
def sent (k : Station) (kind : FrameKind) : Transmission :=
  { kind := kind, bytes := encodeFrame (plainFrame kind k 0#16), elapsed := 80 }

theorem witness_OwnFrameEndCountsAndReports :
    (let s := withEntries (sending 1 .active .leave) (entry .armed 0x0002#16 .command) Entry.blank;
      s.resetHeld = false ∧ s.frames.transmitting = some (sent 1 .leave) ∧ (sent 1 .leave).kind = .leave ∧
        s.line.state ≠ .offline ∧ (s.entry 0).pending = true) ∧
      (let s := sending 1 .coldstart .cold;
        s.frames.transmitting = some (sent 1 .cold) ∧ (sent 1 .cold).kind = .cold ∧ s.line.state = .coldstart ∧
          [] ≠ lineBeats (sent 1 .cold).bytes) ∧
      (let s := sending 1 .active .sync;
        s.frames.transmitting = some (sent 1 .sync) ∧ (sent 1 .sync).kind ≠ .leave ∧
          ¬((sent 1 .sync).kind = .cold ∧ s.line.state = .coldstart ∧ [] ≠ lineBeats (sent 1 .sync).bytes)) := by
  decide +kernel

/-- OFFLINE; the own transmission; activity that fell in part into it; noise and a cut-off frame in a synced state and in COLDSTART; and the six ways of
being foreign, one by one. -/
theorem witness_FrameEndCountsBadAndForeign :
    let s := station 3 .active 210#16
    let foreign := fun (rx : Reception) (f : Frame) => hear s.settings.rate rx = .frame f ∧
      (rx.startBeat < 16 ∨ 48 < rx.startBeat ∨ f.sender ≠ rx.startSlot ∨ s.settings.size ≤ f.sender.val ∨
        f.round ≠ rx.startRound ∨ f.sender = s.timer.station)
    let f := plainFrame .sync 1 210#16
    ((station 0 .offline 0#16).resetHeld = false ∧ (station 0 .offline 0#16).line.state = .offline) ∧
      ((sending 1 .active .sync).resetHeld = false ∧ (sending 1 .active .sync).frames.transmitting ≠ none) ∧
      (s.resetHeld = false ∧ s.line.state.synced = true ∧ s.frames.transmitting = none) ∧
      ({ received f 1 32 with meetsOwn := true }.meetsOwn = true ∧ s.line.state ≠ .listen) ∧
      ((station 3 .coldstart 210#16).line.state = .coldstart ∧ f.kind ≠ .cold) ∧
      hear s.settings.rate noise = .activity ∧ hear s.settings.rate cutOff = .bad ∧
      foreign (received f 1 15) f ∧ foreign (received f 1 49) f ∧ foreign (received f 2 32) f ∧
      foreign (received (plainFrame .sync 4 210#16) 4 32) (plainFrame .sync 4 210#16) ∧
      foreign { received f 1 32 with startRound := 211#16 } f ∧
      foreign (received (plainFrame .sync 3 210#16) 3 32) (plainFrame .sync 3 210#16) := by decide +kernel

theorem witness_GoodFrameIsDelivered :
    let s := station 3 .active 210#16
    let cold := station 1 .coldstart 210#16
    let good := fun (s : State) (rx : Reception) (f : Frame) => s.resetHeld = false ∧ s.frames.transmitting = none ∧
      hear s.settings.rate rx = .frame f ∧ 16 ≤ rx.startBeat ∧ rx.startBeat ≤ 48 ∧ f.sender = rx.startSlot ∧
      f.sender.val < s.settings.size ∧ f.round = rx.startRound ∧ f.sender ≠ s.timer.station
    (good s (received (plainFrame .sync 2 210#16) 2 16) (plainFrame .sync 2 210#16) ∧ s.line.state.synced = true ∧
        s.peers.tracking = true) ∧
      (good s (received (plainFrame .leave 0 210#16) 0 48) (plainFrame .leave 0 210#16) ∧
        (s.peer 0).departed = false) ∧
      ((plainFrame .sync 2 210#16).kind ≠ .leave ∧ (plainFrame .sync 2 210#16).arrivals = []) ∧
      (cold.line.state = .coldstart ∧ cold.peers.tracking = false ∧
        good cold (received (plainFrame .sync 2 210#16) 2 16) (plainFrame .sync 2 210#16)) ∧
      (good cold (received (plainFrame .cold 2 210#16) 2 32) (plainFrame .cold 2 210#16) ∧
        cold.timer.station.val < (plainFrame .cold 2 210#16).sender.val) ∧
      good cold (received (plainFrame .leave 0 210#16) 0 32) (plainFrame .leave 0 210#16) := by decide +kernel

theorem witness_UsableFrameIsAdopted :
    let ok := fun (s : State) (rx : Reception) (f : Frame) => s.resetHeld = false ∧ s.frames.transmitting = none ∧
      hear s.settings.rate rx = .frame f ∧ f.sender.val < s.settings.size ∧ f.sender ≠ s.timer.station ∧
      s.peers.tracking = false
    (ok (station 1 .listen 7#16) (received (plainFrame .sync 3 210#16) 3 0) (plainFrame .sync 3 210#16) ∧
        (station 1 .listen 7#16).line.state = .listen) ∧
      (ok (station 1 .coldstart 7#16) (received (plainFrame .cold 0 210#16) 3 500) (plainFrame .cold 0 210#16) ∧
        (station 1 .coldstart 7#16).line.state = .coldstart ∧ (plainFrame .cold 0 210#16).kind = .cold ∧
        (plainFrame .cold 0 210#16).sender.val < (station 1 .coldstart 7#16).timer.station.val) := by decide +kernel

/-- Activity that is no frame, a LEAVE frame, a sender of N, and the own number, as LISTEN takes them. -/
theorem witness_LineActivityRestartsListenTimer :
    let s := station 1 .listen 7#16
    (s.resetHeld = false ∧ s.line.state = .listen ∧ s.frames.transmitting = none) ∧
      (∀ f, hear s.settings.rate noise = .frame f →
        s.settings.size ≤ f.sender.val ∨ f.sender = s.timer.station ∨ f.kind = .leave) ∧
      (∀ f, hear s.settings.rate (received (plainFrame .leave 0 7#16) 0 32) = .frame f →
        s.settings.size ≤ f.sender.val ∨ f.sender = s.timer.station ∨ f.kind = .leave) ∧
      (∀ f, hear s.settings.rate (received (plainFrame .sync 4 7#16) 0 32) = .frame f →
        s.settings.size ≤ f.sender.val ∨ f.sender = s.timer.station ∨ f.kind = .leave) ∧
      (station 1 .active 7#16).line.state ≠ .listen := by
  have h1 : hear .mbit5 noise = .activity := by decide +kernel
  have h2 : hear .mbit5 (received (plainFrame .leave 0 7#16) 0 32) = .frame (plainFrame .leave 0 7#16) := by
    decide +kernel
  have h3 : hear .mbit5 (received (plainFrame .sync 4 7#16) 0 32) = .frame (plainFrame .sync 4 7#16) := by
    decide +kernel
  refine ⟨⟨rfl, rfl, rfl⟩, fun f h => ?_, fun f h => ?_, fun f h => ?_, by decide⟩
  · exact absurd (h1.symm.trans h) (by simp)
  · cases h2.symm.trans h
    decide
  · cases h3.symm.trans h
    decide

theorem witness_ListenExpiryStartsCold :
    (let s := station 2 .listen 77#16; s.resetHeld = false ∧ s.line.state = .listen ∧ s.line.leavePending = false) ∧
      (station 2 .active 77#16).line.state ≠ .listen := by decide +kernel

/-- The longest frame, with the least and the greatest lead, behind 8 silent beats. -/
theorem witness_SentFrameIsHeard :
    let f : Frame :=
      { plainFrame .cold 15 65535#16 with
        arrivals :=
          { number := 63#6, epoch := 255#8, lead := 15#4, announce := 65535#16 } ::
            List.replicate 7 { number := 0#6, epoch := 0#8, lead := 1#4, announce := 0#16 } }
    let rx := received f 15 32
    (f.arrivals.length ≤ 8 ∧ (∀ a ∈ f.arrivals, a.lead ≠ 0#4) ∧ rx.rate = .mbit5 ∧ 8 ≤ rx.quietBefore ∧
      rx.beforeJump = false ∧ rx.meetsOwn = false ∧ startMark.map codeBit <+: rx.beats ∧
      lineBeats (encodeFrame f) <+: rx.beats) ∧
    noise.quietBefore = 7 ∧ startMark.map codeBit <+: cutOff.beats := by decide +kernel

/-- A cut-off frame, one whose CRC is another, a lead of 0 and kind 00 under their own CRC are bad; too little silence,
another rate, a jump and an own transmission leave activity that is not a frame (R20, R21, R27). -/
theorem test_hear_refuses :
    let f := plainFrame .sync 1 9#16
    let rx := received f 1 32
    let a : ArrivalEntry := { number := 0#6, epoch := 0#8, lead := 0#4, announce := 0#16 }
    let body := fun (b : List Byte) => { rx with beats := lineBeats (b ++ [(crc b).extractLsb' 8 8, (crc b).extractLsb' 0 8]) }
    hear .mbit5 rx = .frame f ∧ hear .mbit5 cutOff = .bad ∧
      hear .mbit5 { rx with beats := lineBeats ((encodeFrame f).set 7 0x00#8) } = .bad ∧
      hear .mbit5 (body (encodeHeader { f with arrivals := [a] } ++ encodeArrival a)) = .bad ∧
      hear .mbit5 (body ((encodeHeader f).set 0 0x04#8)) = .bad ∧ hear .mbit5 noise = .activity ∧
      hear .mbit1 rx = .activity ∧ hear .mbit5 { rx with beforeJump := true } = .activity ∧
      hear .mbit5 { rx with meetsOwn := true } = .activity := by decide +kernel

/-- A boundary that the command brings about, with a correction; one in progress whose records are not handed over, and
one whose records are, with all reactions due. -/
theorem witness_RoundBoundaryClosesRecords :
    let all : List BoundaryReaction := [.view, .peers, .line, .table]
    let records : RoundRecords := { good := 0x0002#16, foreign := 0x0004#16, mark := true }
    (let s := atTime (station 1 .active 9#16) 3 528 (some 16);
      s.resetHeld = false ∧ s.timer.dueBoundary = none ∧ s.timer.boundary = none ∧ (∀ d ∈ s.timer.correction, 0 ≤ d) ∧
        s.Meets 10#16 { good := 0#16, foreign := 0#16, mark := false } all) ∧
      (let s := after (.slotOpens allChannels) (atTime (station 1 .active 9#16) 3 512 none);
        s.timer.boundary = some { opening := 10#16, due := all, records := none } ∧
          { opening := 10#16, due := all, records := none : Boundary }.due ≠ [] ∧
          s.Meets 10#16 { good := 0#16, foreign := 0#16, mark := false } all ∧ .assembly ∉ all) ∧
      (let s := { station 0 .active 9#16 with
          timer := { RoundTimer.start with
            boundary := some { opening := 10#16, due := all, records := some records }, ownOpening := true } };
        s.timer.boundary = some { opening := 10#16, due := all, records := some records } ∧ all ≠ [] ∧
          s.timer.station = 0 ∧ s.timer.ownOpening = true ∧ s.timer.slot = 0 ∧ s.timer.beat = 0 ∧ 0 < s.timer.size ∧
          s.Meets 10#16 records all) := by decide +kernel

/-- The line controller's record in a state. -/
def lineIn (l : LineState) : LineController := { LineController.offline with state := l }

/-- Station 1 at the boundary that closes round 3, with these senders in its records. -/
def closing3 (l : LineController) (good foreign : StationSet) : State :=
  atBoundary [.view, .line]
    { station 1 l.state 3#16 with line := l, frames := { FrameLayer.empty with good := good, foreign := foreign } }

/-- What the statement asks of such a state. -/
abbrev Meets3 (s : State) (good foreign : StationSet) : Prop :=
  s.resetHeld = false ∧ s.Meets 4#16 { good := good, foreign := foreign, mark := false } [.view, .line]

/-- Every such state meets it. -/
theorem meets3 (l : LineController) (good foreign : StationSet) : Meets3 (closing3 l good foreign) good foreign :=
  ⟨rfl, Or.inr ⟨_, rfl, by simp, rfl, rfl, rfl⟩⟩

/-- COLDSTART with 3 and with 4 COLD frames, INTEGRATING in its round with and without a good sender and in another
round, OFFLINE, and PASSIVE at hold 6 and 7, each at the boundary that closes round 3. -/
theorem witness_RoundBoundaryMovesLineController_joining :
    Meets3 (closing3 { lineIn .coldstart with coldSent := 4 } 0#16 0#16) 0#16 0#16 ∧
      Meets3 (closing3 { lineIn .coldstart with coldSent := 3 } 0#16 0#16) 0#16 0#16 ∧
      Meets3 (closing3 { lineIn .integrating with integration := some 3#16 } 1#16 0#16) 1#16 0#16 ∧
      Meets3 (closing3 { lineIn .integrating with integration := some 3#16 } 0#16 0#16) 0#16 0#16 ∧
      Meets3 (closing3 { lineIn .integrating with integration := some 4#16 } 0#16 0#16) 0#16 0#16 ∧
      Meets3 (closing3 (lineIn .offline) 0#16 0#16) 0#16 0#16 ∧
      Meets3 (closing3 { lineIn .passive with hold := 6 } 1#16 0#16) 1#16 0#16 ∧
      Meets3 (closing3 { lineIn .passive with hold := 7 } 1#16 0#16) 1#16 0#16 ∧ 4#16 - 1#16 = 3#16 :=
  ⟨meets3 _ _ _, meets3 _ _ _, meets3 _ _ _, meets3 _ _ _, meets3 _ _ _, meets3 _ _ _, meets3 _ _ _, meets3 _ _ _,
   by decide⟩

/-- Station 1, ACTIVE in round 3, with peer 0 PRESENT and this view of it. -/
def viewed (v : Option StationSet) : State :=
  { station 1 .active 3#16 with
    peers :=
      { PeerTable.cleared with
        tracking := true
        records := (Vector.replicate 16 PeerRecord.cleared).set 0
          { PeerRecord.cleared with present := true, lastRound := some 3#16, lastView := v } } }

/-- Sides that yield and sides that do not, in ACTIVE and PASSIVE. -/
theorem witness_RoundBoundaryMovesLineController_sides :
    yields (0#16 ||| stationBit 1) 0x0001#16 = true ∧ yields 0x0001#16 0x0001#16 = false ∧
      yields 0#16 0x0001#16 = true ∧ yields (0x0001#16 ||| stationBit 1) 0#16 = false ∧
      ([.peers, .line, .table] : List BoundaryReaction) = [.peers] ++ .line :: [.table] ∧
      .line ∉ ([.peers] : List BoundaryReaction) := by decide +kernel

/-- Peer 0 counts in P, in Q, and in neither. -/
theorem witness_RoundBoundaryMovesLineController_views :
    (viewed (some 0x0001#16)).ViewNames 3#16 false 0 ∧ (viewed (some 0x0002#16)).ViewNames 3#16 true 0 ∧
      ((viewed none).peer 0).lastView = none :=
  ⟨⟨by decide, by decide, rfl, rfl, _, rfl, by decide⟩, ⟨by decide, by decide, rfl, rfl, _, rfl, by decide⟩, rfl⟩

/-- The line controller's reaction leaves COLDSTART for ACTIVE, ACTIVE for LISTEN with an entry pending, PASSIVE with
leave pending for OFFLINE, and OFFLINE not at all. -/
theorem witness_RoundBoundaryMovesLineController_entered :
    let next := fun (l : LineController) =>
      ((closing3 l 0#16 0x0015#16).lineBoundary 3#16 4#16 0#16 0x0015#16).line.state
    next { lineIn .coldstart with coldSent := 4 } = .active ∧ next (lineIn .active) = .listen ∧
      next { lineIn .passive with leavePending := true } = .offline ∧ next (lineIn .offline) = .offline ∧
      (let u := withEntries (closing3 (lineIn .active) 0#16 0x0015#16) (entry .armed 0x0002#16 .command) Entry.blank;
        (u.entry 0).pending = true ∧ (u.entry 1).pending = false ∧
          ((u.lineBoundary 3#16 4#16 0#16 0x0015#16).entry 0).reason = some .resync) := by decide +kernel

/-- Section 3.11: the rounds of stations 0 and 4, and of 1, 2 and 5; and two rounds of one station each. -/
theorem witness_ExactlyOneSideYields :
    (0x0011#16 ≠ 0#16 ∧ 0x0026#16 ≠ 0#16 ∧ 0x0011#16 &&& 0x0026#16 = 0#16 ∧ yields 0x0011#16 0x0026#16 = true) ∧
      (0x0001#16 ≠ 0#16 ∧ 0x8000#16 ≠ 0#16 ∧ 0x0001#16 &&& 0x8000#16 = 0#16 ∧ yields 0x8000#16 0x0001#16 = true) := by
  decide +kernel

/-- A station that tracks, with peer 0 as given. -/
def withPeer (p : PeerRecord) (start : Option Round) : State :=
  { station 3 .active 9#16 with
    peers := { records := (Vector.replicate 16 PeerRecord.cleared).set 0 p, tracking := true, startRound := start } }

/-- A start round ahead; a heard peer; a silent one that reaches the loss limit, and one at 7; and the own number. -/
theorem witness_PeersCloseRound :
    (let s := withPeer PeerRecord.cleared (some 9#16);
      s.peers.tracking = true ∧ s.peers.startRound = some 9#16 ∧ 9#16 ≠ 8#16) ∧
      (let s := withPeer { PeerRecord.cleared with lastRound := some 8#16 } (some 8#16);
        s.peers.startRound = some 8#16 ∧ (0 : Station).val < s.settings.size ∧ 0 ≠ s.timer.station ∧
          (s.peer 0).lastRound = some 8#16 ∧ (s.peer 0).departed = false ∧ (s.peer 0).present = false) ∧
      (let s := withPeer { PeerRecord.cleared with present := true, silence := 2 } none;
        s.peers.startRound = none ∧ (s.peer 0).silence ≤ 7 ∧ (s.peer 0).lastRound ≠ some 8#16 ∧
          min 7 ((s.peer 0).silence + 1) = s.settings.lossLimit ∧ (∀ k, (s.peer k).silence ≤ 7) ∧
          (s.peer 0).present = true) ∧
      (let s := withPeer { PeerRecord.cleared with silence := 7, departed := true, lastRound := some 8#16 } none;
        (s.peer 0).silence ≤ 7 ∧ (s.peer 0).departed = true) ∧
      (let s := withPeer PeerRecord.cleared none; s.settings.size ≤ (4 : Station).val ∧ 3 = s.timer.station) := by
  decide +kernel

/-- Entry 0 fires and chains to entry 1, with both markers; entries of the other clauses stand beside them. -/
theorem witness_TableBoundaryFiresAndExpires :
    let fires := fun (chain : EntryIndex) => ({ entry .complete 0x0001#16 .command with
        fireRound := some 10#16
        record :=
          { LoadedRecord.blank with participants := 0x0001#16, condition := .command, markers := 3#2, chain := some chain } } :
      Entry)
    let s := withEntries (station 0 .active 9#16) (fires 1) (entry .held 0x0001#16 .immediate)
    let unstaged := withEntries (station 0 .active 9#16) (fires 1)
      { entry .held 0x0001#16 .command with record := { LoadedRecord.blank with channels := 0x80#8 } }
    let twice := { s with entries := s.entries.set 15 (fires 1) }
    let expires : Entry :=
      { entry .armed 0x0001#16 .command with
        armRound := some 9#16
        record := { LoadedRecord.blank with participants := 0x0001#16, condition := .command, deadline := 1#12 } }
    let t := withEntries (station 0 .passive 9#16) expires { fires 2 with fireRound := some 11#16 }
    (s.line.state.synced = true ∧ (s.entry 0).state = .complete ∧ (s.entry 0).fireRound = some 10#16 ∧
      (s.entry 0).record.markers.getLsbD 0 = true ∧ (s.entry 0).record.markers.getLsbD 1 = true ∧
      (s.entry 0).record.chain = some 1 ∧ (s.entry 1).state = .held ∧ s.fullyStaged 1 = true ∧
      (s.entry 1).record.condition = .immediate ∧ s.participates (s.entry 1) = true ∧ (s.entry 2).state = .free) ∧
    ((unstaged.entry 1).state = .held ∧ unstaged.fullyStaged 1 = false) ∧
    ((0 : EntryIndex) < 15 ∧ (twice.entry 15).state = .complete ∧ (twice.entry 0).record.chain = some 1) ∧
    (t.line.state.synced = true ∧ (t.entry 0).state = .armed ∧ (t.entry 0).record.deadline ≠ 0#12 ∧
      (t.entry 0).armRound = some 9#16 ∧ 9#16 + (t.entry 0).record.deadline.setWidth 16 = 10#16 ∧
      (t.entry 1).state = .complete ∧ (t.entry 1).fireRound ≠ some 10#16 ∧
      ({ t with entries := t.entries.set 3 (entry .held 0x0001#16 .command) }.entry 3).state = .held) := by decide +kernel

/-- Entry 0 chains to entry 5 and entry 1 to entry 3, both IMMEDIATE: they join the queue as 3, 5, behind what stays of
it (R103). -/
theorem witness_TableBoundaryFiresAndExpires_order :
    let fires := fun (chain : EntryIndex) => ({ entry .complete 0x0001#16 .command with
        fireRound := some 10#16
        record := { (entry .complete 0x0001#16 .command).record with chain := some chain } } : Entry)
    let target := entry .held 0x0001#16 .immediate
    let u := withEntries (station 0 .active 9#16) (fires 5) (fires 3)
    let s := { u with
      entries := (u.entries.set 3 target).set 5 target
      frames := { FrameLayer.empty with announce := { uncarried := [7], carried := [0, 1] } } }
    (s.line.state.synced = true ∧ (s.entry 5).state = .held ∧ s.fullyStaged 5 = true ∧
        s.participates (s.entry 5) = true) ∧
      (s.tableBoundary 10#16).frames.announce = { uncarried := [7, 3, 5], carried := [] } := by decide +kernel

/-- Entries 0 and 1 fire with a set each on channel 0: the later one becomes active, entry 0 is superseded there, and
both pairs leave the queue. -/
theorem witness_TableBoundaryFiresAndExpires_swap :
    let own : Entry :=
      { entry .complete 0x0001#16 .command with
        fireRound := some 10#16, record := { LoadedRecord.blank with participants := 0x0001#16, channels := 0x01#8 } }
    let s := withChannels (withEntries (station 0 .active 9#16) own own)
      { Channel.afterReset with
        staged := [{ tag := 0, set := ChannelSet.off }, { tag := 1, set := periodic 600#24 300#24 0#16 }] }
      Channel.afterReset
    ([0, 1] : List EntryIndex).Pairwise (· < ·) ∧
      (∀ i, i ∈ ([0, 1] : List EntryIndex) ↔ (s.entry i).state = .complete ∧ (s.entry i).fireRound = some 10#16) ∧
      ((s.tableBoundary 10#16).channel 0).active = periodic 600#24 300#24 0#16 ∧
      ((s.tableBoundary 10#16).channel 0).staged = [] ∧ ((s.tableBoundary 10#16).entry 0).superseded = 0x01#8 ∧
      ((s.tableBoundary 10#16).entry 1).superseded = 0x00#8 := by decide +kernel

/-- No pair, and two pairs of the firing set of which the one behind is a guarded burst, on a station that is PASSIVE.
-/
theorem witness_LatestStagedSetWins :
    let own : Entry :=
      { entry .complete 0x0001#16 .command with record := { LoadedRecord.blank with channels := 0x01#8 } }
    let p : StagedPair := { tag := 0, set := ChannelSet.off }
    let w : StagedPair := { tag := 1, set := { burst 600#24 300#24 3#16 with guard := true, safe := true } }
    let s := withChannels (withEntries (station 0 .passive 9#16) own own) { Channel.afterReset with staged := [p, w] }
      Channel.afterReset
    let pairs := fun (k : ChannelIndex) => (s.channel k).staged.filter fun q =>
      decide (q.tag ∈ ([0, 1] : List EntryIndex) ∧ hasChannel (s.entry q.tag).record.channels k = true)
    pairs 1 = [] ∧ pairs 0 = [p] ++ [w] ∧ w.set.mode = .burst ∧ w.set.guard = true ∧ s.line.state ≠ .active ∧
      p.tag ≠ w.tag := by decide +kernel

/-- One participant of entry 0, in round 300, with this own announce round, lead 2 and this late policy. -/
def announced (own : Round) (late : LatePolicy) : State :=
  withEntries (station 0 .active 300#16)
    { entry .armed 0x0001#16 .command with
      ownAnnounce := some own
      record := { LoadedRecord.blank with participants := 0x0001#16, condition := .command, lead := 2#4, late := late } }
    (entry .held 0x0001#16 .command)

/-- What the statement asks of a state and the latest announce round of its entry 0. -/
abbrev Complete0 (s : State) (a : Round) : Prop :=
  (s.entry 0).state = .armed ∧ s.arrivalsKnown (s.entry 0) = true ∧ a ∈ s.knownRounds (s.entry 0) ∧
    (∀ b ∈ s.knownRounds (s.entry 0), (s.timer.round - a).toNat ≤ (s.timer.round - b).toNat) ∧
    (s.timer.round - a).toNat ≤ 32767

/-- One known announce round is the least in age. -/
theorem complete0_of_known (s : State) (a : Round) (n : Nat) (h1 : (s.entry 0).state = .armed)
    (h2 : s.arrivalsKnown (s.entry 0) = true) (h3 : s.knownRounds (s.entry 0) = [a])
    (h4 : (s.timer.round - a).toNat = n) (h5 : n ≤ 32767) : Complete0 s a :=
  ⟨h1, h2, by simp [h3], by simp [h3], h4 ▸ h5⟩

/-- Age 1, the last in time under lead 2; age 2, the first that is late; and age 32767. -/
theorem witness_CompletionFollowsLeastAge_ages :
    Complete0 (announced 299#16 .skip) 299#16 ∧ Complete0 (announced 298#16 .apply) 298#16 ∧
      Complete0 (announced 33069#16 .skip) 33069#16 :=
  ⟨complete0_of_known _ _ 1 (by decide) (by decide +kernel) (by decide +kernel) (by decide) (by decide),
   complete0_of_known _ _ 2 (by decide) (by decide +kernel) (by decide +kernel) (by decide) (by decide),
   complete0_of_known _ _ 32767 (by decide) (by decide +kernel) (by decide +kernel) (by decide +kernel) (by decide)⟩

/-- The lead of the three states, against their ages 1, 2 and 32767, and their late policies. -/
theorem witness_CompletionFollowsLeastAge_leads :
    ((announced 299#16 .skip).agreedLead ((announced 299#16 .skip).entry 0) = 2#4) ∧
      ((announced 298#16 .apply).agreedLead ((announced 298#16 .apply).entry 0) = 2#4 ∧
        ((announced 298#16 .apply).entry 0).record.late = .apply) ∧
      ((announced 33069#16 .skip).agreedLead ((announced 33069#16 .skip).entry 0) = 2#4 ∧
        ((announced 33069#16 .skip).entry 0).record.late = .skip) := by decide +kernel

/-- An entry that is not ARMED, and one that lacks its arrival. -/
theorem witness_CompletionFollowsLeastAge_else :
    ((announced 299#16 .skip).entry 1).state ≠ .armed ∧
      (withEntries (station 0 .active 0#16) (entry .armed 0x0001#16 .command) Entry.blank).arrivalsKnown
        (entry .armed 0x0001#16 .command) = false := by decide +kernel

/-- Entry 0 is pending as 12/7 with participants 0 and 1, and holds this record of station 1. -/
def gathering (r : Option Round) : State :=
  withEntries (station 0 .active 300#16)
    { entry .armed 0x0003#16 .command with records := (Vector.replicate 16 none).set 1 r } Entry.blank

/-- The arrival entry 12/7 of round 300. -/
def arrival12 : ArrivalEntry := { number := 12#6, epoch := 7#8, lead := 3#4, announce := 300#16 }

/-- Not well dated and well dated announce rounds; a number that nothing pending has; an epoch that no entry has. -/
theorem witness_ArrivalEntriesAreTaken_tests :
    (gathering none).NamesUnique ∧ (301#16 ≠ 300#16 ∧ precedes 301#16 300#16 = false) ∧
      arrival12.announce = 300#16 ∧ precedes 299#16 300#16 = true ∧
      (∀ i, ((gathering none).entry i).pending = true → ((gathering none).entry i).record.number ≠ 13#6) ∧
      (∃ i, ((gathering none).entry i).pending = true ∧ ((gathering none).entry i).record.number = arrival12.number) ∧
      ∀ i, ((gathering none).entry i).state ≠ .free → ((gathering none).entry i).record.number = arrival12.number →
        ((gathering none).entry i).record.epoch ≠ 8#8 := by decide +kernel

/-- A sender that is no participant; another lead and the same; no record, the same record, and another one. -/
theorem witness_ArrivalEntriesAreTaken_records :
    (((gathering none).entry 0).pending = true ∧ ((gathering none).entry 0).record.number = arrival12.number ∧
        ((gathering none).entry 0).record.epoch = arrival12.epoch) ∧
      hasStation ((gathering none).entry 0).record.participants 2 = false ∧
      hasStation ((gathering none).entry 0).record.participants 1 = true ∧
      (gathering none).participates ((gathering none).entry 0) = true ∧
      (gathering none).effectiveLead ((gathering none).entry 0) ≠ 4#4 ∧
      (gathering none).effectiveLead ((gathering none).entry 0) = arrival12.lead ∧
      ((gathering none).entry 0).records[(1 : Station)] = none ∧
      ((gathering (some 300#16)).entry 0).records[(1 : Station)] = some arrival12.announce ∧
      ((gathering (some 299#16)).entry 0).records[(1 : Station)] = some 299#16 ∧ 299#16 ≠ arrival12.announce ∧
      (gathering (some 299#16)).NamesUnique := by decide +kernel

/-- An observer entry 12/7 of participants 0 and 1 at station 2, with this recorded lead. -/
def observing (lead : Option (BitVec 4)) : State :=
  withEntries (station 2 .active 300#16) { entry .armed 0x0003#16 .none with recordedLead := lead } Entry.blank

/-- Entry 0 is HELD as 12/7 and entry 1 pending as 12/8. -/
def heldEpoch : State :=
  withEntries (station 0 .active 300#16) (entry .held 0x0003#16 .command)
    { entry .armed 0x0003#16 .command with record := { (entry .armed 0x0003#16 .command).record with epoch := 8#8 } }

/-- Observer entries without and with a recorded lead; and an epoch that a HELD entry alone has. -/
theorem witness_ArrivalEntriesAreTaken_observers :
    (((observing none).entry 0).pending = true ∧
        (observing none).participates ((observing none).entry 0) = false ∧
        ((observing none).entry 0).recordedLead = none ∧ ((observing none).entry 0).records[(1 : Station)] = none ∧
        hasStation ((observing none).entry 0).record.participants 1 = true) ∧
      (((observing (some 3#4)).entry 0).recordedLead = some arrival12.lead) ∧
      (((observing (some 1#4)).entry 0).recordedLead = some 1#4 ∧ 1#4 ≠ arrival12.lead) ∧
      (heldEpoch.entry 0).state = .held ∧ (heldEpoch.entry 0).record.number = arrival12.number ∧
      (heldEpoch.entry 0).record.epoch = arrival12.epoch := by decide +kernel

theorem witness_ArrivalEntriesAreTaken_names : (observing none).NamesUnique := by decide +kernel

theorem witness_ArrivalEntriesAreTaken_heldNames : heldEpoch.NamesUnique := by decide +kernel

theorem witness_LossNoticeAbandonsWaitingEntries :
    let s := withEntries (station 0 .active 300#16) (entry .armed 0x0003#16 .command)
      { entry .armed 0x0003#16 .command with records := (Vector.replicate 16 none).set 1 (some 299#16) }
    ((s.entry 0).state = .armed ∧
      ∃ k : Station, hasStation (s.entry 0).record.participants k = true ∧ hasStation 0x0002#16 k = true ∧
        (s.entry 0).records[k] = none) ∧
    (∀ k : Station, hasStation (s.entry 1).record.participants k = true → hasStation 0x0002#16 k = true →
      (s.entry 1).records[k] ≠ none) ∧ (s.entry 2).state ≠ .armed := by decide +kernel

theorem witness_TriggerEdgesMakeEntriesArrive :
    waiting.resetHeld = false ∧ (State.reset.trigger 0).level = none ∧ (waiting.trigger 2).level = some false ∧
      (waiting.trigger 2).level = some (!true) ∧
      ((waiting.entry 1).state = .armed ∧ waiting.participates (waiting.entry 1) = true ∧
        (waiting.entry 1).arrived = false ∧ (waiting.entry 1).record.condition = .trigger 2 .rising) ∧
      (waiting.entry 6).state ≠ .armed ∧
      (([(0, false), (1, false), (2, true), (3, false)] : List (InputIndex × Bool)).map Prod.fst).Nodup := by
  decide +kernel

/-- A channel that waits; one that does not; one at the last position before its high time; and guarded ones on a
station that is not ACTIVE. -/
theorem witness_PhaseWaitAndFallChangeChannel :
    let s := withChannels (station 0 .active 0#16) (Channel.start (periodic 600#24 300#24 1#16) [])
      (runningAt (periodic 600#24 599#24 0#16) 598 0)
    let t := withChannels (station 0 .passive 0#16) Channel.afterReset
      (runningAt { periodic 600#24 1#24 0#16 with guard := true } 0 0)
    (s.resetHeld = false ∧ (s.channel 0).run = .waiting ∧ (s.channel 1).run ≠ .waiting ∧
      (s.channel 0).run ≠ .running) ∧
      ((s.channel 1).run = .running ∧ (s.channel 1).position < (s.channel 1).active.high.toNat ∧
        (s.channel 1).active.high.toNat < (s.channel 1).active.period.toNat ∧ (s.channel 1).active.mode ≠ .off ∧
        (s.channel 1).active.guard = false) ∧
      ((t.channel 1).run = .running ∧ (t.channel 1).position < (t.channel 1).active.high.toNat ∧
        (t.channel 1).active.high.toNat < (t.channel 1).active.period.toNat ∧ (t.channel 1).active.guard = true ∧
        t.line.state ≠ .active) := by decide +kernel

/-- Channel 0 runs a PERIODIC set that entry 0 counts to its first period end and entry 1 does not wait for; channel 1
runs a BURST set with 2 periods left, and with 1. -/
theorem witness_PeriodEndCountsAndArrives :
    let s := fun n => withChannels
      (withEntries (station 0 .active 0#16) (entry .armed 0x0001#16 (.channel 0 1#8)) (entry .armed 0x0001#16 .command))
      (runningAt (periodic 600#24 300#24 0#16) 599 0) (runningAt (burst 2#24 1#24 3#16) 1 n)
    ((s 2).resetHeld = false ∧ ((s 2).channel 0).run = .running ∧ ((s 2).channel 0).active.mode ≠ .burst ∧
        ((s 2).channel 2).run ≠ .running) ∧
      (((s 2).channel 1).active.mode = .burst ∧ 1 < ((s 2).channel 1).periodsRemaining) ∧
      (((s 1).channel 1).active.mode = .burst ∧ ((s 1).channel 1).periodsRemaining = 1) ∧
      (((s 2).entry 0).state = .armed ∧ (s 2).participates ((s 2).entry 0) = true ∧ ((s 2).entry 0).arrived = false ∧
        ((s 2).entry 0).record.condition = .channel 0 1#8 ∧ ((s 2).entry 0).channelCount.toNat + 1 = (1#8).toNat) ∧
      ((s 2).entry 2).state ≠ .armed := by decide +kernel

theorem witness_MarkerPulseEnds : State.reset.resetHeld = false := rfl

theorem witness_TransactionStartsAndUnknownByte :
    State.reset.resetHeld = false ∧ State.reset.port.state = .idle ∧
      (withPort State.reset { Port.idle with state := .trailing }).port.state ≠ .idle ∧
      State.reset.port.state.takesCommand = true ∧ ∀ c : PortCommand, c.byte ≠ 0x14#8 :=
  ⟨rfl, rfl, by decide, by decide, fun c => by cases c <;> decide⟩

theorem witness_ClockEdgeTakesOneBit :
    State.reset.resetHeld = false ∧ State.reset.port.state = .idle ∧
      (let p := (withPort State.reset { Port.idle with state := .arguments, bits := 6 }).port;
        p.state = .arguments ∧ p.bits < 7) ∧
      (let p := (withPort State.reset { Port.idle with state := .turnaround, bits := 6 }).port;
        p.state = .turnaround ∧ p.bits < 7) ∧
      (withPort State.reset { Port.idle with state := .turnaround, bits := 7 }).port.bits = 7 := by decide +kernel

theorem witness_ClockedCommandIsItsRow :
    (Instr.stage 4#8 5#8 (encodeSet ChannelSet.off)).wellFormed = true ∧
      (Instr.stage 4#8 5#8 (encodeSet ChannelSet.off)).portRow = some (.stage, 4#8 :: 5#8 :: encodeSet ChannelSet.off) ∧
      Instr.join.wellFormed = true ∧ Instr.join.portRow = some (.join, []) ∧
      (withPort State.reset { Port.idle with state := .command }).resetHeld = false ∧
      (withPort State.reset { Port.idle with state := .command }).port = { Port.idle with state := .command } := by
  decide +kernel

/-- A refused command's one-byte response, cut short after one bit and read in full. -/
theorem witness_ResponseIsShiftedOut :
    let s := after (.badCommand 0x14#8) State.reset
    s.resetHeld = false ∧ [0x01#8] ≠ [] ∧ s.port.state = .turnaround ∧ s.port.bits = 0 ∧ s.port.shifted = 0 ∧
      s.port.snapshot = some [0x01#8] ∧ 8 ≤ (List.replicate 8 false).length ∧
      (List.replicate 15 true).length < 8 + 8 * [0x01#8].length ∧
      8 + 8 * [0x01#8].length ≤ (List.replicate 16 true).length := by decide +kernel

theorem witness_TransactionEndCommitsOrAborts :
    let port := fun (p : PortState) (bits : Nat) (c : Option Commit) =>
      withPort (loaded3 .done []) { Port.idle with state := p, bits := bits, commit := c }
    ((port .command 0 none).resetHeld = false ∧ (port .command 0 none).port.state = .command ∧
        (port .command 0 none).port.bits = 0) ∧
      ((port .trailing 0 none).port.commit = none ∧ (port .trailing 0 none).port.state = .trailing) ∧
      ((port .command 7 none).port.state = .command ∧ (port .command 7 none).port.bits ≠ 0) ∧
      ((port .response 0 (some .pop)).port.commit ≠ none ∧ (port .response 0 (some .pop)).port.state = .response) ∧
      (port .trailing 0 (some .readCounters)).port.commit = some .readCounters ∧
      (let s := { port .trailing 0 (some .takeEvents) with latches := Latches.empty.openReport };
        s.port.commit = some .takeEvents ∧ s.latches.report.isSome = true) ∧
      (let s := { port .trailing 0 (some .pop) with completions := [3] };
        s.port.commit = some .pop ∧ s.completions = 3 :: []) := by decide +kernel

/-- A locked station; an N of 1 and of 17 out of range; an N of 3 that entry 3 of Table 25 no longer fits, and 4 that it
does. -/
theorem witness_ConfigureReplacesSettings :
    let s := { loaded3 .held [] with locked := false, line := LineController.offline }
    s.Ready ∧ s.locked = false ∧ (station 1 .active 0#16).Ready ∧ (station 1 .active 0#16).locked = true ∧
      decodeSettings [0x01#8, 0x02#8, 0x33#8, 0xFF#8] = none ∧ decodeSettings [0x11#8, 0x02#8, 0x33#8, 0xFF#8] = none ∧
      decodeSettings [0x03#8, 0x02#8, 0x33#8, 0xFF#8] =
        some { size := 3, rate := .mbit5, lossLimit := 3, defaultLead := 3#4, mask := 0xFF#8 } ∧
      ((s.entry 3).state = .held ∧
        ∃ k : Station, hasStation (s.entry 3).record.participants k = true ∧ 3 ≤ k.val) ∧
      (∀ k : Station, hasStation (s.entry 3).record.participants k = true → k.val < 4) ∧
      (s.entry 0).state ≠ .held := by decide +kernel

theorem witness_JoinEntersListen :
    ((station 1 .active 0#16).Ready ∧ (station 1 .active 0#16).line.state ≠ .offline) ∧
      (let s := station 4 .offline 0#16;
        s.Ready ∧ s.line.state = .offline ∧ s.settings.size ≤ s.timer.station.val) ∧
      (let s := station 3 .offline 0#16;
        s.Ready ∧ s.line.state = .offline ∧ s.timer.station.val < s.settings.size ∧ s.PendingOnlySynced) := by
  decide +kernel

theorem witness_LeaveLeavesTheRound :
    (State.reset.Ready ∧ State.reset.line.state = .offline) ∧
      ((station 1 .active 0#16).Ready ∧ (station 1 .active 0#16).line.state = .active) ∧
      (let s := withEntries (station 1 .passive 0#16) (entry .complete 0x0002#16 .command) (entry .held 0x0002#16 .command);
        s.Ready ∧ s.line.state ≠ .offline ∧ s.line.state ≠ .active ∧ (s.entry 0).pending = true ∧
          (s.entry 1).pending = false) := by decide +kernel

theorem witness_LoadTakesLegalRecord :
    let s := loaded3 .held []
    let r := (decodeRecord record12).getD LoadedRecord.blank
    s.Ready ∧ 16 ≤ (16#8).toNat ∧ (15#8).toNat = (15 : EntryIndex).val ∧ (s.entry 3).state ≠ .free ∧
      (s.entry 15).state = .free ∧ decodeRecord [] = none ∧ decodeRecord record12 = some r ∧
      r.Legal s.settings.size s.timer.station 15 ∧
      (∃ j : EntryIndex, j ≠ 15 ∧ (s.entry j).state ≠ .free ∧ (s.entry j).record.number = r.number ∧
        (s.entry j).record.epoch = r.epoch) ∧
      (∀ j : EntryIndex, j ≠ 15 → (State.reset.entry j).state ≠ .free →
        (State.reset.entry j).record.number = r.number → (State.reset.entry j).record.epoch ≠ r.epoch) := by
  decide +kernel

theorem witness_ArmStartsRendezvous :
    let staged := loaded3 .held [{ tag := 3, set := ChannelSet.off }]
    let now := withEntries (station 0 .passive 0#16) (entry .held 0x0001#16 .immediate) Entry.blank
    (staged.Ready ∧ 16 ≤ (255#8).toNat ∧ (3#8).toNat = (3 : EntryIndex).val ∧ (staged.entry 4).state ≠ .held) ∧
      (let s := { staged with line := { LineController.offline with state := .coldstart } };
        (s.entry 3).state = .held ∧ s.line.state = .coldstart) ∧
      ((loaded3 .held []).line.state = .active ∧
        ∃ k, hasChannel ((loaded3 .held []).entry 3).record.channels k = true ∧
          ((loaded3 .held []).channel k).isStaged 3 = false) ∧
      (∀ k, hasChannel (staged.entry 3).record.channels k = true → (staged.channel k).isStaged 3 = true) ∧
      ((now.entry 0).state = .held ∧ now.line.state = .passive ∧ (now.entry 0).record.condition = .immediate ∧
        now.participates (now.entry 0) = true ∧
        ∀ k, hasChannel (now.entry 0).record.channels k = true → (now.channel k).isStaged 0 = true) := by decide +kernel

theorem witness_ArriveIsTheLocalArrival :
    let s := withEntries (station 0 .active 0#16) (entry .armed 0x0001#16 .command)
      { entry .armed 0x0001#16 .command with arrived := true }
    s.Ready ∧ 16 ≤ (16#8).toNat ∧ (1#8).toNat = (1 : EntryIndex).val ∧ (s.entry 2).state ≠ .armed ∧
      (s.entry 0).state = .armed ∧ (s.entry 0).record.condition = .command ∧ (s.entry 0).arrived = false ∧
      (s.entry 1).arrived = true ∧ (waiting.entry 1).state = .armed ∧ (waiting.entry 1).record.condition ≠ .command := by
  decide +kernel

theorem witness_CancelWithdrawsEntry :
    let s := after .ownSlotOpens rotating
    let t := withEntries (station 0 .active 0#16) (entry .armed 0x0002#16 .none) (entry .held 0x0001#16 .command)
    s.Ready ∧ 16 ≤ (16#8).toNat ∧ (6#8).toNat = (6 : EntryIndex).val ∧
      ((s.entry 6).pending = true ∧ s.participates (s.entry 6) = true ∧ (s.entry 6).ownAnnounce = none ∧
        s.frames.assembled.map (fun f => decide (6 ∈ f.carriage)) = some true) ∧
      ((s.entry 0).pending = true ∧ s.participates (s.entry 0) = true ∧ (s.entry 0).ownAnnounce ≠ none) ∧
      (t.Ready ∧ (t.entry 0).pending = true ∧ t.participates (t.entry 0) = false ∧ (t.entry 1).state = .held ∧
        (t.entry 2).state = .free) := by decide +kernel

/-- Entry 0 has fired in round 300, committed, with this boundary standing at the instant. -/
def fired300 (b : Option Boundary) : State :=
  let s := withEntries (station 0 .active 300#16)
    { entry .done 0x0001#16 .command with
      outcome := some .fired, actualFire := some 300#16, ownAnnounce := some 298#16 } (entry .done 0x0002#16 .none)
  { s with timer := { s.timer with boundary := b }, port := { s.port with closedNow := [0] } }

/-- A committed DONE entry at and behind the instant that closed it, and one that is not committed. -/
theorem witness_CancelWithdrawsEntry_done :
    let b : Boundary := { opening := 300#16, due := [.line], records := none }
    let past := fired300 none
    (past.Ready ∧ (past.entry 0).state = .done ∧ past.participates (past.entry 0) = true ∧
        (past.entry 0).ownAnnounce ≠ none ∧ ¬past.ClosedAtInstant 0) ∧
      ((fired300 (some b)).Ready ∧ (fired300 (some b)).ClosedAtInstant 0) ∧
      ((past.entry 1).state = .done ∧ past.participates (past.entry 1) = false) := by decide +kernel

theorem witness_PopReportsHead :
    State.reset.Ready ∧ State.reset.completions = [] ∧ ({ loaded3 .done [] with completions := [3] }).Ready ∧
      ({ loaded3 .done [] with completions := [3] }).completions = 3 :: [] := by decide +kernel

theorem witness_ReadsChangeNothing :
    State.reset.Ready ∧ 16 ≤ (16#8).toNat ∧ (15#8).toNat = (15 : EntryIndex).val ∧ State.reset.entry 15 = Entry.blank ∧
      15 ∉ State.reset.frames.announce.all ∧ State.reset.inCarriage 15 = false ∧ 8 ≤ (8#8).toNat ∧
      (7#8).toNat = (7 : ChannelIndex).val ∧
      ((staging [5, 3]).channel 4).staged[1]?.map StagedPair.tag = some 3 ∧
      ((staging [5, 3]).channel 4).staged[2]? = none := by decide +kernel

/-- Table 34's queue with 3 and with 4 pairs; an entry that is pending, one that is FREE, and one without the channel.
-/
theorem witness_StageQueuesSet :
    let off := encodeSet ChannelSet.off
    let s := staging [5, 3, 7]
    let full := staging [5, 3, 7, 9]
    (s.Ready ∧ full.Ready ∧ 8 ≤ (8#8).toNat ∧ 16 ≤ (16#8).toNat ∧ decodeSet [] = none) ∧
      ((4#8).toNat = (4 : ChannelIndex).val ∧ (9#8).toNat = (9 : EntryIndex).val ∧
        decodeSet off = some ChannelSet.off) ∧
      ((loaded3 .armed []).Ready ∧ ((loaded3 .armed []).entry 3).pending = true ∧
        ((loaded3 .armed []).entry 0).state = .free) ∧
      ((s.entry 9).state = .held ∧ hasChannel (s.entry 9).record.channels 3 = false ∧
        hasChannel (s.entry 9).record.channels 4 = true) ∧
      ((∀ p ∈ (full.channel 4).staged, p.tag ≠ 11) ∧ 4 ≤ (full.channel 4).staged.length) ∧
      (∃ p ∈ (full.channel 4).staged, p.tag = 9) ∧
      ((∀ p ∈ (s.channel 4).staged, p.tag ≠ 9) ∧ (s.channel 4).staged.length < 4) := by decide +kernel

theorem witness_UnstageRemovesPair :
    let s := staging [5, 3, 7, 9]
    let pair : StagedPair := { tag := 3, set := ChannelSet.off }
    (s.Ready ∧ 8 ≤ (8#8).toNat ∧ 16 ≤ (255#8).toNat ∧ (4#8).toNat = (4 : ChannelIndex).val ∧
        (3#8).toNat = (3 : EntryIndex).val) ∧
      (∀ p ∈ (s.channel 4).staged, p.tag ≠ 6) ∧
      ((∃ p ∈ (s.channel 4).staged, p.tag = 3) ∧ (s.entry 3).state ≠ .armed ∧ (s.entry 3).state ≠ .complete) ∧
      ((∃ p ∈ ((loaded3 .armed [pair]).channel 2).staged, p.tag = 3) ∧
        ((loaded3 .armed [pair]).entry 3).state = .armed) := by decide +kernel

/-- The port in each of its three states that take the command, and a report that a raise finds open in RESPONSE. -/
theorem witness_TakeEventsOpensReport :
    (State.reset.Ready ∧ (withPort State.reset { Port.idle with state := .command }).Ready ∧
        (withPort State.reset { Port.idle with state := .arguments }).Ready) ∧
      ((after .takeEvents State.reset).port.state = .turnaround ∧
        (after .takeEvents State.reset).latches.report.isSome = true) ∧
      State.reset.latches.report = none := by
  decide +kernel

/-- A station with entry 3 ARMED, staged and announced, and a command that waits. -/
def announcing : State :=
  { after (.arrive 0x03#8) (loaded3 .armed [{ tag := 3, set := ChannelSet.off }]) with pending := [.readStatus] }

/-- The premises of the invariants of the rendezvous table. -/
theorem witness_StepKeepsTable :
    announcing.CompletionsMatch ∧ announcing.NamesUnique ∧ announcing.PendingOnlySynced ∧
      (announcing.entry 3).pending = true := by decide +kernel

/-- The premise of the invariant of the staged queues. -/
theorem witness_StepKeepsStagedSets : announcing.StagedMatch := by decide +kernel

/-- The premise of the invariant of the outputs. -/
theorem witness_StepKeepsOutputs : announcing.OutputsFit := by decide +kernel

/-- The premise of the invariant of the configuration. -/
theorem witness_StepKeepsConfiguration : announcing.ConfigFits := by decide +kernel

/-- The premise of the invariant of the peer table. -/
theorem witness_StepKeepsPeers : announcing.ConfigFits ∧ announcing.PeersFit := by decide +kernel

theorem witness_StepKeepsAnnounceQueue :
    let s := after (.arrive 0x03#8) (loaded3 .armed [])
    s.ConditionsFit ∧ s.frames.announce.all.Nodup ∧
      (∀ i : EntryIndex, i ∈ s.frames.announce.all ↔
        ((s.entry i).pending = true ∧ s.participates (s.entry i) = true ∧ (s.entry i).arrived = true)) ∧
      s.frames.assembled = none := by decide +kernel

end Sys2Proof.Tests
end

section
/-!
PROOF of the invariant of R100: no entry is ARMED or COMPLETE while the line controller is OFFLINE, LISTEN or COLDSTART.

Two things could break it. An entry could become pending while the line controller is unsynced: the only two ways to
ARMED are the ARM command, which is refused then, and a chain, whose firing set is empty then; and COMPLETE is reached
from ARMED alone. Or the line controller could enter an unsynced state with an entry pending: the entries to LISTEN and
OFFLINE close every pending entry first, and COLDSTART is entered from LISTEN alone. Every other operation leaves the
line state, and makes no entry pending. One lemma for each operation, in the order of the model.
-/

namespace Sys2Proof.Machine

-- One lemma after another: side by side, the evaluations of `decide` would each hold a thread.
set_option Elab.async false

variable {s t u : State}

/-! ### How the invariant is come by -/

/-- The invariant of R100 as a structure: the model's `PendingOnlySynced` is an abbreviation of a quantified statement,
which elaboration would open at every use. -/
structure State.PendingFits (s : State) : Prop where
  onlySynced : s.PendingOnlySynced

theorem State.pendingFits_iff : s.PendingFits ↔ s.PendingOnlySynced :=
  ⟨State.PendingFits.onlySynced, State.PendingFits.mk⟩

/-- In a synced state of the line controller the invariant asks nothing. -/
theorem State.pendingFits_of_synced (hs : s.line.state.synced = true) : s.PendingFits :=
  ⟨fun hn => absurd hn (by simp [hs])⟩

/-- Where no entry is pending the invariant holds in every state of the line controller. -/
theorem State.pendingFits_of_none (hp : ∀ i, (s.entry i).pending = false) : s.PendingFits :=
  ⟨fun _ => hp⟩

/-- A blank table has no pending entry. -/
theorem State.pendingFits_of_blank (he : s.entries = Vector.replicate 16 Entry.blank) : s.PendingFits :=
  State.pendingFits_of_none fun i => by simp [State.entry, he, Entry.blank, Entry.pending]

/-- A change that leaves the line state and makes no entry pending keeps the invariant. -/
theorem State.PendingFits.of_pending (h : s.PendingFits) (hl : t.line.state = s.line.state)
    (hp : ∀ i, (t.entry i).pending = true → (s.entry i).pending = true) : t.PendingFits := by
  refine ⟨fun hn i => ?_⟩
  have hs : (s.entry i).pending = false := h.onlySynced (hl ▸ hn) i
  exact Bool.eq_false_iff.mpr fun ht => by simp [hp i ht] at hs

/-- A change to other blocks than the line controller and the entries keeps the invariant. -/
theorem State.PendingFits.of_keeps {l : List Block} (h : s.PendingFits) (hk : Keeps l s t)
    (hl : .line ∉ l := by decide) (he : .entries ∉ l := by decide) : t.PendingFits := by
  have hline : t.line = s.line := hk .line hl
  have hentries : t.entries = s.entries := hk .entries he
  exact h.of_pending (by rw [hline]) fun i => by simp [State.entry, hentries]

theorem State.PendingFits.ite {p : Prop} [Decidable p] (ht : p → t.PendingFits)
    (hu : ¬p → u.PendingFits) : (if p then t else u).PendingFits := by
  split
  · exact ht ‹_›
  · exact hu ‹_›

theorem State.PendingFits.foldl {α : Type} {f : State → α → State} (h : s.PendingFits)
    (hf : ∀ s a, s.PendingFits → (f s a).PendingFits) (as : List α) :
    (as.foldl f s).PendingFits :=
  List.foldlRecOn as f h fun s hs a _ => hf s a hs

/-! ### Setters -/

namespace State.PendingFits

theorem setTimer (h : s.PendingFits) (x : RoundTimer) : (s.setTimer x).PendingFits := ⟨h.onlySynced⟩
theorem setSettings (h : s.PendingFits) (x : Settings) : (s.setSettings x).PendingFits := ⟨h.onlySynced⟩
theorem setFrames (h : s.PendingFits) (x : FrameLayer) : (s.setFrames x).PendingFits := ⟨h.onlySynced⟩
theorem setCounters (h : s.PendingFits) (x : Counters) : (s.setCounters x).PendingFits := ⟨h.onlySynced⟩
theorem setPeers (h : s.PendingFits) (x : PeerTable) : (s.setPeers x).PendingFits := ⟨h.onlySynced⟩
theorem setCompletions (h : s.PendingFits) (x : List EntryIndex) : (s.setCompletions x).PendingFits :=
  ⟨h.onlySynced⟩
theorem setChannels (h : s.PendingFits) (x : Vector Channel 8) : (s.setChannels x).PendingFits := ⟨h.onlySynced⟩
theorem setChannel (h : s.PendingFits) (k : ChannelIndex) (x : Channel) : (s.setChannel k x).PendingFits :=
  ⟨h.onlySynced⟩
theorem setTrigger (h : s.PendingFits) (k : InputIndex) (x : Trigger) : (s.setTrigger k x).PendingFits :=
  ⟨h.onlySynced⟩
theorem setMarker (h : s.PendingFits) (k : MarkerIndex) (x : Marker) : (s.setMarker k x).PendingFits :=
  ⟨h.onlySynced⟩
theorem setLatches (h : s.PendingFits) (x : Latches) : (s.setLatches x).PendingFits := ⟨h.onlySynced⟩
theorem setPort (h : s.PendingFits) (x : Port) : (s.setPort x).PendingFits := ⟨h.onlySynced⟩
theorem raise (h : s.PendingFits) (e : Event) : (s.raise e).PendingFits := ⟨h.onlySynced⟩
theorem raisePeers (h : s.PendingFits) (joined lost : StationSet) : (s.raisePeers joined lost).PendingFits :=
  ⟨h.onlySynced⟩

/-- The line controller's record changes, but not its state. -/
theorem setLine (h : s.PendingFits) (l : LineController) (hl : l.state = s.line.state := by rfl) :
    (s.setLine l).PendingFits :=
  h.of_pending hl fun _ => id

/-- An entry is replaced by one that is pending only if the entry was. -/
theorem setEntry (h : s.PendingFits) (i : EntryIndex) (e : Entry)
    (he : e.pending = true → (s.entry i).pending = true := by exact id) : (s.setEntry i e).PendingFits :=
  h.of_pending rfl fun j hj => by
    by_cases hji : j = i
    · subst hji
      exact he (by simpa using hj)
    · simpa [hji] using hj

/-! ### Entries -/

/-- The entry that closes is DONE, and so pending no longer. -/
theorem closeEntry (h : s.PendingFits) (i : EntryIndex) (o : EntryOutcome) (r : Option Reason) :
    (s.closeEntry i o r).PendingFits :=
  ((h.setEntry i _ (by simp [Entry.pending])).of_keeps (leaveAnnounce_keeps _ i)).of_keeps (discardStaged_keeps _ i)

/-- An entry that goes FREE is not pending. -/
theorem freeEntry (h : s.PendingFits) (i : EntryIndex) : (s.freeEntry i).PendingFits :=
  (((h.setEntry i Entry.blank (by simp [Entry.pending, Entry.blank])).of_keeps (leaveAnnounce_keeps _ i)).of_keeps
    (discardStaged_keeps _ i)).setFrames _

theorem tableReaction {work : State → State} (h : (work s).PendingFits) :
    (s.tableReaction work).PendingFits :=
  h.setCompletions _

theorem arriveLocally (h : s.PendingFits) (i : EntryIndex) : (s.arriveLocally i).PendingFits :=
  (h.setEntry i { s.entry i with arrived := true }).setFrames _

theorem arriveImmediate (h : s.PendingFits) (i : EntryIndex) : (s.arriveImmediate i).PendingFits :=
  .ite (fun _ => h.arriveLocally i) fun _ => h

/-- The loss notice closes entries (R120). -/
theorem lossNotice (h : s.PendingFits) (lost : StationSet) : (s.lossNotice lost).PendingFits :=
  tableReaction <| h.foldl (fun _ i hs => .ite (fun _ => hs.closeEntry i _ _) fun _ => hs) _

/-! ### Channels and triggers -/

theorem countPeriodEnd (h : s.PendingFits) (k : ChannelIndex) (i : EntryIndex) :
    (s.countPeriodEnd k i).PendingFits := by
  have hcount := h.setEntry i { s.entry i with channelCount := (s.entry i).channelCount + 1#8 } id
  unfold State.countPeriodEnd
  split
  · exact .ite (fun _ => .ite (fun _ => hcount.arriveLocally i) fun _ => hcount) fun _ => h
  · exact h

theorem endPeriod (h : s.PendingFits) (k : ChannelIndex) : (s.endPeriod k).PendingFits :=
  .ite (fun _ => (h.setChannel k _).foldl (fun _ i hs => hs.countPeriodEnd k i) _) fun _ => h

theorem takeChange (h : s.PendingFits) (k : ChannelIndex) (c : ChannelChange) :
    (s.takeChange k c).PendingFits := by
  cases c with
  | phaseWaitEnd => exact h.of_keeps (endPhaseWait_keeps s k)
  | highToLow => exact h.of_keeps (fall_keeps s k)
  | periodEnd => exact h.endPeriod k

theorem advanceChannel (h : s.PendingFits) (k : ChannelIndex) : (s.advanceChannel k).PendingFits := by
  unfold State.advanceChannel
  split
  · exact h.setChannel k _
  · exact h.takeChange k _

theorem skipBeats (h : s.PendingFits) (order : List ChannelIndex) (n : Nat) :
    (s.skipBeats order n).PendingFits :=
  (h.foldl (fun _ k hs => .ite (fun _ => hs.advanceChannel k) fun _ => hs) order).foldl
    (fun _ _ hs => hs.foldl (fun _ k hs => hs.advanceChannel k) order) _

theorem applyCorrection (h : s.PendingFits) (order : List ChannelIndex) :
    (s.applyCorrection order).PendingFits := by
  unfold State.applyCorrection
  split
  · exact h
  · exact setTimer (.ite (fun _ => h.skipBeats order _) fun _ => h) _

theorem deliverEdge (h : s.PendingFits) (k : InputIndex) (rising : Bool) :
    (s.deliverEdge k rising).PendingFits :=
  h.foldl (fun _ i hs => by
    split
    · exact .ite (fun _ => hs.arriveLocally i) fun _ => hs
    · exact hs) _

theorem sampleTrigger (h : s.PendingFits) (k : InputIndex) (high : Bool) :
    (s.sampleTrigger k high).PendingFits := by
  unfold State.sampleTrigger
  split
  · exact h.setTrigger k _
  · exact .ite (fun _ => h) fun _ => (h.setTrigger k _).deliverEdge k high

/-! ### Agreement -/

/-- Only an ARMED entry, which is pending, becomes COMPLETE (R115). -/
theorem testCompletion (h : s.PendingFits) (i : EntryIndex) : (s.testCompletion i).PendingFits := by
  refine .ite (fun harmed => ?_) fun _ => h
  have hp : (s.entry i).pending = true := by simp [Entry.pending, harmed.1]
  refine .ite (fun _ => h.setEntry i _ fun _ => hp) fun _ => ?_
  split
  · exact h.closeEntry i _ _
  · exact h.setEntry i _ fun _ => hp

theorem recordArrival (h : s.PendingFits) (i : EntryIndex) (k : Station) (a : ArrivalEntry) :
    (s.recordArrival i k a).PendingFits := by
  simp only [State.recordArrival]
  split
  · exact (h.setEntry i _).testCompletion i
  · exact .ite (fun _ => h) fun _ => h.setCounters _

theorem takeArrival (h : s.PendingFits) (i : EntryIndex) (k : Station) (a : ArrivalEntry) :
    (s.takeArrival i k a).PendingFits := by
  refine .ite (fun _ => h) fun _ => .ite (fun _ => .ite (fun _ => h.recordArrival i k a) fun _ => h.raise _) fun _ => ?_
  split
  · exact (h.setEntry i _).recordArrival i k a
  · exact .ite (fun _ => h.recordArrival i k a) fun _ => h.raise _

theorem hearArrival (h : s.PendingFits) (k : Station) (round : Round) (a : ArrivalEntry) :
    (s.hearArrival k round a).PendingFits := by
  refine .ite (fun _ => .ite (fun _ => h) fun _ => ?_) fun _ => h
  split
  · exact h.takeArrival _ k a
  · exact .ite (fun _ => h) fun _ => h.raise _

theorem hearArrivals (h : s.PendingFits) (k : Station) (round : Round) (l : List ArrivalEntry) :
    (s.hearArrivals k round l).PendingFits :=
  tableReaction <| h.foldl (fun _ a hs => hs.hearArrival k round a) l

/-! ### Peers -/

theorem closePeers (h : s.PendingFits) (c : Round) : (s.closePeers c).PendingFits := by
  have hclosed := h.foldl
    (f := fun s k => if s.peerInUse k = true then s.setPeer k ((s.peer k).closed c s.settings.lossLimit) else s)
    (fun s k hs => .ite (fun _ => hs.of_keeps (setPeer_keeps s k _)) fun _ => hs) allSixteen
  have hraised := hclosed.raisePeers (s.peersThat c fun p q => !p.present && q.present)
    (s.peersThat c fun p q => p.present && !q.present)
  exact .ite (fun _ => hraised) fun _ => hraised.lossNotice _

theorem peersBoundary (h : s.PendingFits) (c : Round) : (s.peersBoundary c).PendingFits := by
  refine .ite (fun _ => ?_) fun _ => h
  split
  · exact h.closePeers c
  · exact .ite (fun _ => (h.setPeers _).closePeers c) fun _ => h

theorem departPeer (h : s.PendingFits) (f : Frame) : (s.departPeer f).PendingFits :=
  .ite (fun _ => ((h.of_keeps (setPeer_keeps s _ _)).raisePeers _ _).lossNotice _) fun _ => h

end State.PendingFits

/-! ### The line controller -/

/-- Behind the abandoning of the pending entries none is pending (R98, R99). -/
theorem State.pendingFits_abandonPending (s : State) (r : Reason) : (s.abandonPending r).PendingFits := by
  refine State.pendingFits_of_none fun i => ?_
  rw [State.abandonPending_entry]
  split
  · simp [Entry.pending]
  · next hp => simpa using hp

/-- A change to LISTEN or OFFLINE closes what was pending (R98, R99), and the synced states allow pending entries. -/
theorem State.pendingFits_enter (s : State) (target : LineState) (ht : target ≠ .coldstart) :
    (s.enter target).PendingFits := by
  refine .ite (fun _ => ((pendingFits_abandonPending _ _).setPeers _).setFrames _) fun hlisten =>
    .ite (fun _ => ((pendingFits_abandonPending _ _).setPeers _).setFrames _) fun hoffline => ?_
  have hline : (s.setLine (s.changedLine target)).settleChannels.line = s.changedLine target :=
    settleChannels_keeps _ .line (by decide)
  have hsynced : target.synced = true := by
    cases target <;> simp [LineState.synced] at ht hlisten hoffline ⊢
  exact State.PendingFits.raise (State.pendingFits_of_synced (by rw [hline]; exact hsynced)) _

/-- The adopted station is INTEGRATING (R41, R46). -/
theorem State.pendingFits_adopt (s : State) (f : Frame) : (s.adopt f).PendingFits :=
  ((State.pendingFits_enter _ .integrating (by decide)).of_keeps (startTracking_keeps _ _)).setLine _

/-- The station that yields is in LISTEN or in OFFLINE (R51, R55). -/
theorem State.pendingFits_yield (s : State) : s.yield.PendingFits :=
  .ite (fun _ => pendingFits_enter s .offline (by decide)) fun _ =>
    (pendingFits_enter s .listen (by decide)).raise _

namespace State.PendingFits

/-- COLDSTART is as unsynced as the state that it is entered from, and the change leaves the entries (R42). -/
theorem enter_coldstart (h : s.PendingFits) (hs : s.line.state.synced = false) :
    (s.enter .coldstart).PendingFits := by
  have hopened : s.enter .coldstart = ((s.setLine (s.changedLine .coldstart)).settleChannels).raise .stateChange := rfl
  have hset : (s.setLine (s.changedLine .coldstart)).PendingFits := State.pendingFits_of_none (h.onlySynced hs)
  rw [hopened]
  exact (hset.of_keeps (settleChannels_keeps _)).raise _

theorem exclusionCheck (h : s.PendingFits) (c : Round) : (s.exclusionCheck c).PendingFits :=
  .ite
    (fun _ => .ite (fun _ => h.setLine _) fun _ =>
      .ite (fun _ => pendingFits_enter s .offline (by decide)) fun _ =>
        pendingFits_enter _ .passive (by decide))
    fun _ => h.setLine _

theorem passiveHold (h : s.PendingFits) (opening : Round) : (s.passiveHold opening).PendingFits :=
  .ite (fun _ => h.setLine _) fun _ => (pendingFits_enter s .integrating (by decide)).setLine _

theorem lineBoundary (h : s.PendingFits) (c opening : Round) (good foreign : StationSet) :
    (s.lineBoundary c opening good foreign).PendingFits := by
  have halone : (s.becomeAlone opening).PendingFits :=
    (((pendingFits_enter s .active (by decide)).of_keeps (startTracking_keeps _ _)).setLine _).raise _
  have hends : (s.integrationEnds good).PendingFits :=
    .ite (fun _ => pendingFits_enter s .listen (by decide)) fun _ =>
      pendingFits_enter s .active (by decide)
  unfold State.lineBoundary
  split
  case h_1 => exact h
  case h_2 => exact h
  case h_3 => exact .ite (fun _ => halone) fun _ => h
  case h_4 => exact .ite (fun _ => hends) fun _ => h
  case h_5 => exact .ite (fun _ => pendingFits_yield s) fun _ => h.exclusionCheck c
  case h_6 => exact .ite (fun _ => pendingFits_yield s) fun _ => h.passiveHold opening

/-! ### Firing -/

theorem expireDue (h : s.PendingFits) (opening : Round) : (s.expireDue opening).PendingFits :=
  h.foldl (fun _ i hs => .ite (fun _ => hs.closeEntry i _ _) fun _ => hs) _

theorem swapChannel (h : s.PendingFits) (l : List EntryIndex) (k : ChannelIndex) :
    (s.swapChannel l k).PendingFits := by
  simp only [State.swapChannel]
  split
  · exact h
  · exact (h.setChannel k _).foldl (fun s (p : StagedPair) hs => hs.setEntry p.tag _) _

theorem arriveChained (h : s.PendingFits) (before : State) : (State.arriveChained before s).PendingFits :=
  h.foldl (fun _ i hs => .ite (fun _ => hs.arriveImmediate i) fun _ => hs) _

/-- With an empty firing set no chain is taken, and so no entry is armed. -/
theorem fire_nil (h : s.PendingFits) (opening : Round) : (s.fire opening []).PendingFits := by
  have hswapped := h.foldl (f := State.swapChannel []) (fun _ k hs => hs.swapChannel [] k) allChannels
  have hpulsed := hswapped.foldl (f := State.pulseMarkers [])
    (fun s k hs => hs.of_keeps (pulseMarkers_keeps [] s k)) [0, 1]
  simp only [State.fire, List.foldl_nil]
  exact hpulsed.arriveChained _

/-- A chain arms only where the firing set is not empty, which is in a synced state (R130), and there it stays. -/
theorem tableBoundary (h : s.PendingFits) (opening : Round) : (s.tableBoundary opening).PendingFits := by
  by_cases hs : s.line.state.synced = true
  · have hline : (s.tableBoundary opening).line = s.line := tableBoundary_keeps s opening .line (by decide)
    exact State.pendingFits_of_synced (by rw [hline]; exact hs)
  · have hline : (s.expireDue opening).line = s.line := expireDue_keeps s opening .line (by decide)
    have hempty : (s.expireDue opening).firingSet opening = [] := if_neg (by rw [hline]; exact hs)
    have hfire := (h.expireDue opening).fire_nil opening
    rw [← hempty] at hfire
    exact tableReaction hfire

/-! ### Frames -/

theorem commitCarriage (h : s.PendingFits) (round : Round) (i : EntryIndex) :
    (s.commitCarriage round i).PendingFits :=
  .ite (fun _ => (h.setEntry i { s.entry i with ownAnnounce := some round }).testCompletion i) fun _ => h

theorem beginTransmission (h : s.PendingFits) (f : OwnFrame) : (s.beginTransmission f).PendingFits :=
  setPort (tableReaction (foldl ((h.setFrames _).setLine _) (fun _ i hs => hs.commitCarriage f.frame.round i) _)) _

theorem sendFrame (h : s.PendingFits) : s.sendFrame.PendingFits := by
  unfold State.sendFrame
  split
  · exact h
  · exact .ite (fun _ => h.beginTransmission _) fun _ => h.setFrames _

theorem ownFrameDone (h : s.PendingFits) (kind : FrameKind) (passed : Bool) :
    (s.ownFrameDone kind passed).PendingFits :=
  .ite (fun _ => .ite (fun _ => h) fun _ => pendingFits_enter s .offline (by decide)) fun _ =>
    .ite (fun _ => pendingFits_enter _ .listen (by decide)) fun _ => h

theorem endOwnFrame (h : s.PendingFits) (heard : List LineBeat) : (s.endOwnFrame heard).PendingFits := by
  unfold State.endOwnFrame
  split
  · exact h
  · exact (((h.setPort _).setFrames _).setCounters _).ownFrameDone _ _

theorem hearForeign (h : s.PendingFits) (f : Frame) : (s.hearForeign f).PendingFits :=
  .ite (fun _ => (h.setCounters _).setFrames _) fun _ => h.setCounters _

theorem hearGood (h : s.PendingFits) (rx : Reception) (f : Frame) : (s.hearGood rx f).PendingFits :=
  ((h.setCounters _).setFrames _).setTimer _

theorem deliverGood (h : s.PendingFits) (f : Frame) (noticeFirst : Bool) :
    (s.deliverGood f noticeFirst).PendingFits := by
  have hheard : (s.hearPeer f).PendingFits := h.of_keeps (hearPeer_keeps s f)
  exact .ite
    (fun _ => .ite (fun _ => (hheard.departPeer f).hearArrivals _ _ _)
      fun _ => (hheard.hearArrivals _ _ _).departPeer f)
    fun _ => hheard.hearArrivals _ _ _

theorem clearAlone (h : s.PendingFits) : s.clearAlone.PendingFits := .ite (fun _ => h.setLine _) fun _ => h

theorem frameInRound (h : s.PendingFits) (rx : Reception) (f : Frame) (noticeFirst : Bool) :
    (s.frameInRound rx f noticeFirst).PendingFits := by
  have hpassed : s.passInstant.PendingFits := h.setPort _
  unfold State.frameInRound
  split
  · exact h.hearForeign f
  · exact (hpassed.hearGood rx f).clearAlone.deliverGood f noticeFirst

theorem coldFrameHeard (h : s.PendingFits) (f : Frame) (c : FrameClass) :
    (s.coldFrameHeard f c).PendingFits :=
  .ite (fun _ => (pendingFits_enter _ .active (by decide)).of_keeps (startTracking_keeps _ _)) fun _ =>
    .ite (fun _ => pendingFits_adopt s f) fun _ => h

theorem frameInColdstart (h : s.PendingFits) (rx : Reception) (f : Frame) :
    (s.frameInColdstart rx f).PendingFits := by
  simp only [State.frameInColdstart]
  cases s.classify rx f with
  | good => exact .ite (fun _ => (h.hearGood rx f).coldFrameHeard f _) fun _ => h.hearGood rx f
  | foreign => exact .ite (fun _ => (h.hearForeign f).coldFrameHeard f _) fun _ => h.hearForeign f

theorem restartListen (h : s.PendingFits) : s.restartListen.PendingFits := h.setLine _

theorem frameInListen (h : s.PendingFits) (f : Frame) : (s.frameInListen f).PendingFits :=
  .ite (fun _ => pendingFits_adopt _ f) fun _ => (h.setCounters _).restartListen

theorem listenEnds (h : s.PendingFits) (rx : Reception) : (s.listenEnds rx).PendingFits := by
  unfold State.listenEnds
  split
  · exact h.restartListen
  · exact (h.setCounters _).restartListen
  · exact h.frameInListen _

theorem activityEnds (h : s.PendingFits) (rx : Reception) (noticeFirst : Bool) :
    (s.activityEnds rx noticeFirst).PendingFits := by
  unfold State.activityEnds
  split
  · exact h
  · exact h.listenEnds rx
  · split
    · exact h
    · exact h.setCounters _
    · exact h.frameInColdstart rx _
  · split
    · exact h
    · exact h.setCounters _
    · exact h.frameInRound rx _ _

theorem receptionEnds (h : s.PendingFits) (rx : Reception) (noticeFirst : Bool) :
    (s.receptionEnds rx noticeFirst).PendingFits :=
  .ite (fun _ => h) fun _ => h.activityEnds rx noticeFirst

theorem takeOwnOpening (h : s.PendingFits) : s.takeOwnOpening.PendingFits :=
  h.of_keeps (takeOwnOpening_keeps s)

/-! ### Line time -/

theorem reactionOf (h : s.PendingFits) (opening : Round) (r : RoundRecords) (x : BoundaryReaction) :
    (s.reactionOf opening r x).PendingFits := by
  cases x with
  | view => exact h.setFrames _
  | peers => exact h.peersBoundary _
  | line => exact h.lineBoundary _ _ _ _
  | table => exact ((h.setTimer _).tableBoundary opening).setPort _
  | assembly => exact h

theorem react (h : s.PendingFits) (x : BoundaryReaction) : (s.react x).PendingFits := by
  refine .ite (fun _ => .ite (fun _ => h.takeOwnOpening) fun _ => h) fun _ => ?_
  split
  · exact h
  · exact .ite (fun _ => (h.setTimer _).reactionOf _ _ x) fun _ => h

theorem beginBoundary (h : s.PendingFits) : s.beginBoundary.PendingFits := by
  have hreached : (if s.timer.dueBoundary.isSome = true then s else s.reachRound).PendingFits :=
    .ite (fun _ => h) fun _ => (h.applyCorrection _).setTimer _
  simp only [State.beginBoundary]
  split
  · exact hreached
  · exact .ite (fun _ => hreached) fun _ => (hreached.setTimer _).setFrames _

theorem takeBoundary (h : s.PendingFits) (order : List BoundaryReaction) :
    (s.takeBoundary order).PendingFits :=
  h.beginBoundary.foldl (fun _ x hs => hs.react x) order

/-- The cold start begins in LISTEN, where no entry is pending (R42). -/
theorem expireListen (h : s.PendingFits) (hs : s.line.state = .listen) : s.expireListen.PendingFits := by
  have hentered := (h.setLine { s.line with coldSent := 0 }).enter_coldstart (by simp [hs, LineState.synced])
  exact of_keeps (((hentered.setTimer _).setFrames _).setFrames _) (assemble_keeps _)

theorem openSlot (h : s.PendingFits) (order : List ChannelIndex) : (s.openSlot order).PendingFits :=
  .ite (fun _ => h.setTimer _) fun _ => (h.applyCorrection _).setTimer _

theorem passBeat (h : s.PendingFits) : s.passBeat.PendingFits := by
  have hchannels := h.foldl (f := fun t k => t.setChannel k ((t.channel k).beat s.timer.holding))
    (fun _ k hs => hs.setChannel k _) allChannels
  have hmarkers := hchannels.foldl (f := fun s k => s.setMarker k (s.marker k).beat)
    (fun _ k hs => hs.setMarker k _) [0, 1]
  exact setTimer (setFrames (setLine hmarkers _) _) _

/-! ### The commands of the port

Each lemma speaks of the state that the owning block leaves; a refusal leaves the state that it found. -/

theorem accept (h : s.PendingFits) : s.accept.state.PendingFits := h
theorem refuse (h : s.PendingFits) (r : ResultCode) : (s.refuse r).state.PendingFits := h
theorem report (h : s.PendingFits) (data : List Byte) : (s.report data).state.PendingFits := h

theorem restart (h : s.PendingFits) : s.restart.PendingFits :=
  (((h.setTimer _).setFrames _).setFrames _).setTimer _

theorem freeUnfit (h : s.PendingFits) (n : Nat) : (s.freeUnfit n).PendingFits :=
  h.foldl (fun _ i hs => .ite (fun _ => hs.freeEntry i) fun _ => hs) _

theorem configureCommand (h : s.PendingFits) (args : List Byte) :
    (Machine.configureCommand args s).state.PendingFits := by
  unfold Machine.configureCommand
  split
  · exact h
  · split
    · exact h
    · next c _ =>
      have hrestarted : (s.setSettings c).restart.PendingFits := restart (h.setSettings c)
      exact (hrestarted.freeUnfit c.size).accept

theorem joinCommand (h : s.PendingFits) : (Machine.joinCommand s).state.PendingFits := by
  unfold Machine.joinCommand
  split
  · exact h
  · split
    · exact h
    · exact pendingFits_enter _ .listen (by decide)

theorem leaveCommand (h : s.PendingFits) : (Machine.leaveCommand s).state.PendingFits := by
  unfold Machine.leaveCommand
  split
  · exact h
  · exact h.setLine _
  · exact pendingFits_enter s .offline (by decide)

/-- A loaded entry is HELD, which is not pending. -/
theorem loadCommand (h : s.PendingFits) (index : Byte) (record : List Byte) :
    (Machine.loadCommand index record s).state.PendingFits := by
  unfold Machine.loadCommand
  split
  · exact h
  · next i _ =>
    split
    · exact h
    · split
      · exact h
      · next r _ =>
        split
        · exact h
        · split
          · exact h
          · exact (h.setEntry i { Entry.blank with state := .held, record := r } (by simp [Entry.pending])).accept

/-- ARM is refused outside the synced states, and leaves the line controller (R84). -/
theorem armCommand (h : s.PendingFits) (index : Byte) : (Machine.armCommand index s).state.PendingFits := by
  unfold Machine.armCommand
  split
  · exact h
  · next i _ =>
    split
    · exact h
    · split
      · exact h
      · next hsynced =>
        split
        · exact h
        · have hline : (s.armEntry i s.timer.round).line = s.line := armEntry_keeps s i _ .line (by decide)
          exact (State.pendingFits_of_synced (by rw [hline]; simpa using hsynced)).accept

theorem arriveCommand (h : s.PendingFits) (index : Byte) : (Machine.arriveCommand index s).state.PendingFits := by
  unfold Machine.arriveCommand
  split
  · exact h
  · next i _ =>
    split
    · exact h
    · split
      · exact h
      · split
        · exact h
        · exact (h.arriveLocally i).accept

theorem cancelCommand (h : s.PendingFits) (index : Byte) : (Machine.cancelCommand index s).state.PendingFits := by
  unfold Machine.cancelCommand
  split
  · exact h
  · next i _ =>
    have hclosed : (s.tableReaction fun s => s.closeEntry i .abandoned (some .cancelled)).PendingFits :=
      tableReaction (h.closeEntry i _ _)
    split
    · exact h
    · exact h
    · exact (h.freeEntry i).accept
    · split
      · exact h
      · exact hclosed.accept
    · split
      · exact h
      · exact hclosed.accept

theorem popCommand (h : s.PendingFits) : (Machine.popCommand s).state.PendingFits := by
  unfold Machine.popCommand
  split
  · exact h
  · exact h

theorem readEntryCommand (h : s.PendingFits) (index : Byte) : (Machine.readEntryCommand index s).state.PendingFits := by
  unfold Machine.readEntryCommand
  split
  · exact h
  · exact h

theorem stageCommand (h : s.PendingFits) (channel index : Byte) (set : List Byte) :
    (Machine.stageCommand channel index set s).state.PendingFits := by
  unfold Machine.stageCommand
  split
  · split
    · exact h
    · split
      · exact h
      · exact h
      · exact h
      · exact h
      · split
        · exact h
        · split
          · exact h
          · exact (h.setChannels _).accept
  · exact h

theorem unstageCommand (h : s.PendingFits) (channel index : Byte) :
    (Machine.unstageCommand channel index s).state.PendingFits := by
  unfold Machine.unstageCommand
  split
  · split
    · exact h
    · split
      · exact h
      · exact (h.setChannels _).accept
  · exact h

theorem readChannelCommand (h : s.PendingFits) (channel : Byte) :
    (Machine.readChannelCommand channel s).state.PendingFits := by
  unfold Machine.readChannelCommand
  split
  · exact h
  · exact h

/-- A port reset leaves a blank table (R191). -/
theorem resetCommand (s : State) : (Machine.resetCommand s).state.PendingFits :=
  accept (State.pendingFits_of_blank rfl)

/-- Every command of the port keeps the invariant, whatever its argument bytes. -/
theorem runCommand (h : s.PendingFits) (c : PortCommand) (args : List Byte) :
    (Machine.runCommand c args s).state.PendingFits := by
  unfold Machine.runCommand
  split
  case h_1 => exact h.configureCommand _
  case h_2 => exact resetCommand s
  case h_3 => exact h.report _
  case h_4 => exact h.report _
  case h_5 => exact h.joinCommand
  case h_6 => exact h.leaveCommand
  case h_7 => exact h.loadCommand _ _
  case h_8 => exact h.armCommand _
  case h_9 => exact h.arriveCommand _
  case h_10 => exact h.cancelCommand _
  case h_11 => exact h.popCommand
  case h_12 => exact h.readEntryCommand _
  case h_13 => exact h.stageCommand _ _ _
  case h_14 => exact h.unstageCommand _ _
  case h_15 => exact h.readChannelCommand _
  case h_16 => exact (h.setLatches _).report _
  case h_17 => exact h.refuse _

/-! ### The transaction -/

/-- The port takes the snapshot of a reply, and leaves what the owning block has done (R180). -/
theorem finish {r : Reply} (h : r.state.PendingFits) (c : PortCommand) (args : List Byte) :
    (r.finish c args).PendingFits :=
  setPort h _

/-- A command event keeps the invariant (R180). -/
theorem commandEvent (h : s.PendingFits) (c : PortCommand) (args : List Byte) :
    ((s.handCommand (Machine.runCommand c args)).finish c args).PendingFits :=
  finish (runCommand (h.setPort _) c args) c args

theorem commandReceived (h : s.PendingFits) (b : Byte) : (s.commandReceived b).PendingFits := by
  unfold State.commandReceived
  split
  · exact h.setPort _
  · exact .ite (fun _ => h.commandEvent _ _) fun _ => h.setPort _

theorem argumentReceived (h : s.PendingFits) (b : Byte) : (s.argumentReceived b).PendingFits := by
  refine .ite (fun _ => h.setPort _) fun _ => ?_
  split
  · exact h
  · exact h.commandEvent _ _

theorem clockPort (h : s.PendingFits) (pdi : Bool) : (s.clockPort pdi).PendingFits := by
  unfold State.clockPort
  split
  case h_1 => exact h
  case h_2 => exact h
  case h_3 => exact .ite (fun _ => h.setPort _) fun _ => h.commandReceived _
  case h_4 => exact .ite (fun _ => h.setPort _) fun _ => h.argumentReceived _
  case h_5 => exact .ite (fun _ => h.setPort _) fun _ => h.setPort _
  case h_6 => exact .ite (fun _ => h.setPort _) fun _ => h.setPort _
  case h_7 => exact h

theorem abortPort (h : s.PendingFits) : s.abortPort.PendingFits := (h.setLatches _).raise _

/-- The commit of POP frees the entry at the head of the completion queue (R96). -/
theorem commitPop (h : s.PendingFits) : s.commitPop.PendingFits := by
  unfold State.commitPop
  split
  · exact h
  · exact (h.setCompletions _).freeEntry _

theorem commitPending (h : s.PendingFits) : s.commitPending.PendingFits := by
  unfold State.commitPending
  split
  · exact h
  · exact h.commitPop
  · exact h.setLatches _
  · exact h.setCounters _

theorem endTransaction (h : s.PendingFits) : s.endTransaction.PendingFits := by
  refine setPort ?_ _
  split
  case h_1 => exact h
  case h_2 => exact h
  case h_3 => exact .ite (fun _ => h) fun _ => h.abortPort
  case h_4 => exact h.abortPort
  case h_5 => exact .ite (fun _ => h) fun _ => h.abortPort
  case h_6 => exact .ite (fun _ => h) fun _ => h.abortPort
  case h_7 => exact h.commitPending

/-! ### Every command, and every step -/

theorem whenRunning {act : State → State} (h : s.PendingFits) (ht : s.whenRunning act = .next t)
    (hact : (act s).PendingFits) : t.PendingFits := by
  obtain rfl := Host.Outcome.next.inj ht
  exact .ite (fun _ => h) fun _ => hact

/-- A row of a port command does what the command does to the station behind the port (R180). -/
theorem commandRow {c : PortCommand} {args : List Byte} {run : State → Reply} (h : s.PendingFits)
    (ht : s.commandRow c args run = .next t) (hrun : ∀ u : State, u.PendingFits → (run u).state.PendingFits) :
    t.PendingFits :=
  h.whenRunning ht (.ite (fun _ => finish (hrun _ (h.setPort _)) c args) fun _ => h)

/-- Every command keeps the invariant. -/
theorem exec (h : s.PendingFits) (c : Instr) (ht : Machine.exec c s = .next t) : t.PendingFits := by
  unfold Machine.exec at ht
  cases c with
  | resetnLow =>
    obtain rfl := Host.Outcome.next.inj ht
    exact State.pendingFits_of_blank rfl
  | resetnRelease straps pcsLow =>
    obtain rfl := Host.Outcome.next.inj ht
    exact State.pendingFits_of_blank rfl
  | slotOpens order => exact h.whenRunning ht (h.openSlot order)
  | ownSlotOpens =>
    have hreached : s.reachOwnSlot.PendingFits := (h.applyCorrection allChannels).setTimer _
    have hat : (if s.timer.atOwnSlot = true then s else s.reachOwnSlot).PendingFits :=
      .ite (fun _ => h) fun _ => hreached
    exact h.whenRunning ht (.ite (fun _ => hat.takeOwnOpening) fun _ => h)
  | sendOffset => exact h.whenRunning ht (.ite (fun _ => (h.setTimer _).sendFrame) fun _ => h)
  | ownFrameEnd heard => exact h.whenRunning ht (h.endOwnFrame heard)
  | frameEnd rx noticeFirst => exact h.whenRunning ht (h.receptionEnds rx noticeFirst)
  | lineActivityEnd rx => exact h.whenRunning ht (.ite (fun _ => h.receptionEnds rx false) fun _ => h)
  | listenTimerExpiry => exact h.whenRunning ht (.ite h.expireListen fun _ => h)
  | roundBoundary order => exact h.whenRunning ht (h.takeBoundary order)
  | triggerEdge input high => exact h.whenRunning ht (h.sampleTrigger input high)
  | phaseWaitEnd channel => exact h.whenRunning ht (h.of_keeps (endPhaseWait_keeps s channel))
  | highToLowChange channel => exact h.whenRunning ht (h.of_keeps (fall_keeps s channel))
  | periodEnd channel => exact h.whenRunning ht (h.endPeriod channel)
  | markerPulseEnd marker => exact h.whenRunning ht (h.setMarker marker _)
  | transactionStart => exact h.whenRunning ht (.ite (fun _ => h.setPort _) fun _ => h)
  | badCommand byte => exact h.whenRunning ht (.ite (fun _ => h.setPort _) fun _ => h)
  | configure args => exact h.commandRow ht fun _ hu => hu.configureCommand args
  | reset => exact h.commandRow ht fun u _ => resetCommand u
  | readStatus => exact h.commandRow ht fun _ hu => hu.report _
  | readCounters => exact h.commandRow ht fun _ hu => hu.report _
  | join => exact h.commandRow ht fun _ hu => hu.joinCommand
  | leave => exact h.commandRow ht fun _ hu => hu.leaveCommand
  | load index record => exact h.commandRow ht fun _ hu => hu.loadCommand index record
  | arm index => exact h.commandRow ht fun _ hu => hu.armCommand index
  | arrive index => exact h.commandRow ht fun _ hu => hu.arriveCommand index
  | cancel index => exact h.commandRow ht fun _ hu => hu.cancelCommand index
  | pop => exact h.commandRow ht fun _ hu => hu.popCommand
  | readEntry index => exact h.commandRow ht fun _ hu => hu.readEntryCommand index
  | stage channel index set => exact h.commandRow ht fun _ hu => hu.stageCommand channel index set
  | unstage channel index => exact h.commandRow ht fun _ hu => hu.unstageCommand channel index
  | readChannel channel => exact h.commandRow ht fun _ hu => hu.readChannelCommand channel
  | takeEvents => exact h.commandRow ht fun _ hu => (hu.setLatches _).report _
  | transactionEnd => exact h.whenRunning ht h.endTransaction
  | pckRisingEdge pdi => exact h.whenRunning ht (h.clockPort pdi)
  | triggerSample samples => exact h.whenRunning ht (h.foldl (fun _ p hs => hs.sampleTrigger p.1 p.2) samples)

/-- An idle step takes an event of the station's own, or passes a beat (log entry 1). -/
theorem idle (h : s.PendingFits) (ht : Machine.idle s = .next t) : t.PendingFits := by
  unfold Machine.idle at ht
  split at ht
  · obtain rfl := Host.Outcome.next.inj ht
    exact h
  · split at ht
    · obtain rfl := Host.Outcome.next.inj ht
      exact h.passBeat
    · have hchosen : { s with choices := s.choices + 1 }.PendingFits := ⟨h.onlySynced⟩
      exact hchosen.exec _ ht

theorem step (h : s.PendingFits) (ht : Machine.step s = .next t) : t.PendingFits := by
  unfold Machine.step at ht
  split at ht
  · exact h.idle ht
  · next c rest _ =>
    have htaken : { s with pending := rest }.PendingFits := ⟨h.onlySynced⟩
    exact htaken.exec c ht

end State.PendingFits

/-- Settles O55: the table is blank at reset, and each command, each event of the station's own time and each beat keeps
the invariant. -/
theorem stepKeepsPendingSynced : Obligations.StepKeepsPendingSynced := by
  have hreset : State.reset.PendingFits := State.pendingFits_of_blank rfl
  have hkept (s t : State) (hs : s.PendingOnlySynced) (ht : step s = .next t) : t.PendingOnlySynced :=
    State.pendingFits_iff.mp ((State.pendingFits_iff.mpr hs).step ht)
  exact ⟨State.pendingFits_iff.mp hreset, hkept⟩

end Sys2Proof.Machine
end

section
/-!
PROOF of the effect of a loss notice (R120): it closes exactly the ARMED entries that lack a participant it names.

The notice passes the sixteen entries one after another, and closing one of them changes no other entry. So the test of
each entry gives what it gives before the notice, and the notice as a whole closes the entries that pass it then. What
closing takes from an entry, its place in the announce queue and its staged pairs, is taken from those entries alone.
-/

namespace Sys2Proof.Machine

variable (s : State)

theorem allSixteen_ascending : allSixteen.Pairwise (· < ·) := by decide

/-! ### What closing an entry takes from it -/

/-- A closed entry leaves the announce queue, and every other member stays (R90). -/
theorem State.mem_closeEntry_announce (i j : EntryIndex) (o : EntryOutcome) (r : Option Reason) :
    j ∈ (s.closeEntry i o r).frames.announce.all ↔ j ∈ s.frames.announce.all ∧ j ≠ i := by
  simp only [State.closeEntry_announce, AnnounceQueue.all, List.mem_append, List.mem_filter, decide_eq_true_eq,
    or_and_right]

/-- Behind a discard the channel holds the pairs of the other entries (R159). -/
theorem Channel.discard_isStaged (c : Channel) (i j : EntryIndex) :
    (c.discard i).isStaged j = true ↔ c.isStaged j = true ∧ j ≠ i := by
  simp only [Channel.isStaged, Channel.discard_staged, List.any_eq_true, List.mem_filter, decide_eq_true_eq]
  constructor
  · rintro ⟨q, ⟨hq, hi⟩, rfl⟩
    exact ⟨⟨q, hq, rfl⟩, hi⟩
  · rintro ⟨⟨q, hq, rfl⟩, hi⟩
    exact ⟨q, ⟨hq, hi⟩, rfl⟩

/-- What closing takes from the closed entry and from no other, the closing of every entry of a list that passes a test
takes from those entries and from no others. -/
theorem State.foldl_close_takes (has : State → EntryIndex → Prop) (o : EntryOutcome) (r : Option Reason)
    (takes : ∀ s i j, has (s.closeEntry i o r) j ↔ has s j ∧ j ≠ i) (p : Entry → Prop) [DecidablePred p]
    (l : List EntryIndex) (hl : l.Nodup) (s : State) (j : EntryIndex) :
    has (l.foldl (fun s i => if p (s.entry i) then s.closeEntry i o r else s) s) j ↔
      has s j ∧ ¬(j ∈ l ∧ p (s.entry j)) := by
  induction l generalizing s with
  | nil => simp
  | cons i l ih =>
    obtain ⟨hi, hl⟩ := List.nodup_cons.mp hl
    rw [List.foldl_cons, ih hl]
    by_cases hp : p (s.entry i)
    · by_cases h : j = i
      · subst h
        simp [hp, takes]
      · simp [hp, h, takes, State.closeEntry_entry]
    · by_cases h : j = i
      · subst h
        simp [hp, hi]
      · simp [hp, h]

/-! ### What a reaction appends -/

/-- A reaction's appends change no part of the frame layer. -/
theorem State.tableReaction_frames (work : State → State) : (s.tableReaction work).frames = (work s).frames := rfl

/-- A reaction appends the entries that are DONE behind it and were not before (R93). -/
theorem State.tableReaction_appends (work : State → State) :
    (s.tableReaction work).completions = (work s).completions ++ State.newlyDone s (s.tableReaction work) := rfl

/-! ### The loss notice -/

/-- The entry lacks the arrival of a participant that the notice names (R120). -/
theorem Entry.lacks_iff (e : Entry) (lost : StationSet) :
    e.lacks lost = true ↔
      ∃ k : Station, hasStation e.record.participants k = true ∧ hasStation lost k = true ∧ e.records[k] = none := by
  simp [Entry.lacks, members, hasStation, and_assoc]

/-- The notice closes the entry: it is ARMED, and lacks a participant that the notice names (R120). -/
abbrev Entry.ClosesOn (lost : StationSet) (e : Entry) : Prop := e.state = .armed ∧ e.lacks lost = true

variable (lost : StationSet)

/-- The notice's reaction, with the test of an entry named. -/
theorem State.lossNotice_eq :
    s.lossNotice lost = s.tableReaction fun s =>
      allSixteen.foldl
        (fun s i => if (s.entry i).ClosesOn lost then s.closeEntry i .abandoned (some .peerLost) else s) s := rfl

/-- Every entry that the notice closes is DONE, ABANDONED with PEER_LOST, and the others stand as they stood (R120). -/
theorem State.lossNotice_entry (j : EntryIndex) :
    (s.lossNotice lost).entry j =
      if (s.entry j).ClosesOn lost then
        { s.entry j with state := .done, outcome := some .abandoned, reason := some .peerLost }
      else s.entry j := by
  have h := State.foldl_close (Entry.ClosesOn lost) .abandoned (some .peerLost) allSixteen allSixteen_nodup s j
  simpa only [State.lossNotice_eq, State.tableReaction_entry, mem_allSixteen, true_and] using h

/-- The announce queue keeps the members that the notice does not close (R90). -/
theorem State.mem_lossNotice_announce (j : EntryIndex) :
    j ∈ (s.lossNotice lost).frames.announce.all ↔ j ∈ s.frames.announce.all ∧ ¬(s.entry j).ClosesOn lost := by
  have h := State.foldl_close_takes (fun s j => j ∈ s.frames.announce.all) .abandoned (some .peerLost)
    (fun s i j => s.mem_closeEntry_announce i j _ _) (Entry.ClosesOn lost) allSixteen allSixteen_nodup s j
  simpa only [State.lossNotice_eq, State.tableReaction_frames, mem_allSixteen, true_and] using h

/-- A channel keeps the pairs of the entries that the notice does not close (R90, R159). -/
theorem State.lossNotice_isStaged (k : ChannelIndex) (j : EntryIndex) :
    ((s.lossNotice lost).channel k).isStaged j = true ↔
      (s.channel k).isStaged j = true ∧ ¬(s.entry j).ClosesOn lost := by
  have takes (s : State) (i j : EntryIndex) :
      ((s.closeEntry i .abandoned (some .peerLost)).channel k).isStaged j = true ↔
        (s.channel k).isStaged j = true ∧ j ≠ i := by
    rw [State.closeEntry_channel, Channel.discard_isStaged]
  have h := State.foldl_close_takes (fun s j => (s.channel k).isStaged j = true) .abandoned (some .peerLost) takes
    (Entry.ClosesOn lost) allSixteen allSixteen_nodup s j
  simpa only [State.lossNotice_eq, State.tableReaction_channel, mem_allSixteen, true_and] using h

/-- The notice appends the entries that have become DONE (R93). -/
theorem State.lossNotice_completions :
    (s.lossNotice lost).completions = s.completions ++ State.newlyDone s (s.lossNotice lost) := by
  have hwork (t : State) (i : EntryIndex) : Keeps closing t
      (if (t.entry i).ClosesOn lost then t.closeEntry i .abandoned (some .peerLost) else t) :=
    Keeps.ite (closeEntry_keeps t i _ _) (Keeps.refl _ t)
  have hqueue := Keeps.foldl hwork s allSixteen .completions (by decide)
  rw [State.lossNotice_eq, State.tableReaction_appends, hqueue]

/-- The entries that the notice makes DONE are those that it closes. -/
theorem State.mem_newlyDone_lossNotice (i : EntryIndex) :
    i ∈ State.newlyDone s (s.lossNotice lost) ↔ (s.entry i).ClosesOn lost := by
  rw [State.mem_newlyDone, State.lossNotice_entry]
  by_cases h : (s.entry i).ClosesOn lost
  · have harmed : (s.entry i).state = .armed := h.1
    rw [if_pos h]
    exact ⟨fun _ => h, fun _ => ⟨by simp [harmed], rfl⟩⟩
  · rw [if_neg h]
    exact ⟨fun ⟨hnot, hdone⟩ => absurd hdone hnot, fun hc => absurd hc h⟩

/-- Settles O30: each entry is closed by its own test, as it stands before the notice. -/
theorem lossNoticeAbandonsWaitingEntries : Obligations.LossNoticeAbandonsWaitingEntries := by
  intro s lost closes hcloses
  have hc (i : EntryIndex) : closes i ↔ (s.entry i).ClosesOn lost := by
    rw [hcloses, Entry.ClosesOn, Entry.lacks_iff]
  refine ⟨fun i hi => ?_, fun i hi => ?_, State.newlyDone s (s.lossNotice lost), s.lossNotice_completions lost,
    allSixteen_ascending.filter _, fun i => (s.mem_newlyDone_lossNotice lost i).trans (hc i).symm⟩
  · rw [hc] at hi
    refine ⟨by rw [State.lossNotice_entry, if_pos hi], fun hq => ?_, fun k => ?_⟩
    · exact ((s.mem_lossNotice_announce lost i).mp hq).2 hi
    · exact Bool.eq_false_iff.mpr fun hs => ((s.lossNotice_isStaged lost k i).mp hs).2 hi
  · rw [hc] at hi
    refine ⟨by rw [State.lossNotice_entry, if_neg hi], ?_, fun k => ?_⟩
    · rw [State.mem_lossNotice_announce, and_iff_left hi]
    · rw [Bool.eq_iff_iff, State.lossNotice_isStaged, and_iff_left hi]

end Sys2Proof.Machine
end

section
/-!
WHAT A STEP CAN DO. Seven invariants (R9, R28, R63, R82, R85, R92, R148) are kept by every step, and each of them cares about
a few kinds of change only. So every step is taken apart once, into changes of those kinds: `TableWork` are the changes
within one reaction of the rendezvous table, `Evolves` those of the station as a whole, between which every invariant
holds. Each constructor carries what the model has tested where it makes the change. `step_evolves` is the result; an
invariant is then kept if each kind of change keeps it.
-/

namespace Sys2Proof.Machine

-- One lemma after another: side by side, the evaluations of `decide` would each hold a thread.
set_option Elab.async false

/-! ### The kinds of change -/

/-- Blocks that no invariant speaks of. -/
abbrev aside : List Block := [.resetHeld, .counters, .triggers, .latches, .port]

/-- A marker's length lies in its range, and a low marker has none left (R170). -/
def Marker.Fits (m : Marker) : Prop := m.remaining ≤ 512 ∧ (m.high = false → m.remaining = 0)

/-- The silence count stays at 7, and a PRESENT peer's below the loss limit; a PRESENT peer is not departed (R62, R68). -/
def PeerRecord.Fits (p : PeerRecord) (limit : Nat) : Prop :=
  p.silence ≤ 7 ∧ (p.present = true → p.silence < limit ∧ p.departed = false)

/-- The values of a configuration record lie in their ranges (R186, Table 49). -/
def Settings.InRange (c : Settings) : Prop :=
  2 ≤ c.size ∧ c.size ≤ 16 ∧ 2 ≤ c.lossLimit ∧ c.lossLimit ≤ 7 ∧ c.defaultLead ≠ 0#4

/-- The changes that one reaction of the rendezvous table is made of. The entries of `firing` lose their staged pairs to
the channels first and close later, within the same reaction (R131, R132). -/
inductive TableWork (firing : List EntryIndex) : State → State → Prop
  | refl (s : State) : TableWork firing s s
  | trans {s t u : State} (h : TableWork firing s t) (h' : TableWork firing t u) : TableWork firing s u
  | aside {s t : State} (h : Keeps aside s t) : TableWork firing s t
  | note (s : State) (i : EntryIndex) (e : Entry) (hrecord : e.record = (s.entry i).record)
      (harrived : e.arrived = (s.entry i).arrived)
      (hstate : e.state = (s.entry i).state ∨ ((s.entry i).state = .armed ∧ e.state = .complete)) :
      TableWork firing s (s.setEntry i e)
  | arrive (s : State) (i : EntryIndex) (harmed : (s.entry i).state = .armed)
      (hwaits : (s.entry i).arrived = false) (hcondition : (s.entry i).record.condition ≠ .none) :
      TableWork firing s (s.arriveLocally i)
  | arm (s : State) (i : EntryIndex) (r : Round) (hheld : (s.entry i).state = .held)
      (hstaged : s.fullyStaged i = true) : TableWork firing s (s.startArmed i r)
  | close (s : State) (i : EntryIndex) (o : EntryOutcome) (r : Option Reason) (hfree : (s.entry i).state ≠ .free) :
      TableWork firing s (s.closeEntry i o r)
  | swap (s : State) (k : ChannelIndex) (named : List EntryIndex) (winner : StagedPair)
      (hnamed : ∀ i ∈ named, i ∈ firing) (hwinner : winner ∈ (s.channel k).staged) :
      TableWork firing s (s.setChannel k (Channel.start winner.set ((s.channel k).otherPairs named)))
  | mark (s : State) (k : MarkerIndex) (m : Marker) (hm : (s.marker k).Fits → m.Fits) :
      TableWork firing s (s.setMarker k m)

/-- The changes that a step is made of. -/
inductive Evolves : State → State → Prop
  | refl (s : State) : Evolves s s
  | trans {s t u : State} (h : Evolves s t) (h' : Evolves t u) : Evolves s u
  | aside {s t : State} (h : Keeps aside s t) : Evolves s t
  | timer (s : State) (x : RoundTimer) (hstation : x.station = s.timer.station) (hsize : x.size = s.timer.size)
      (hrate : x.rate = s.timer.rate) (hslot : s.ConfigFits → x.slot.val < s.settings.size)
      (hcorrection : s.ConfigFits → ∀ d ∈ x.correction, -16 ≤ d ∧ d ≤ 16) : Evolves s (s.setTimer x)
  | frames (s : State) (f : FrameLayer)
      (hannounce : s.AnnounceMatches → f.announce.all.Perm s.frames.announce.all)
      (hassembled : s.AnnounceMatches → ∀ g, f.assembled = some g → g.named.Nodup) : Evolves s (s.setFrames f)
  | line (s : State) (l : LineController) (hstate : l.state = s.line.state) : Evolves s (s.setLine l)
  | lock (s : State) : Evolves s (s.setLocked true)
  | enter (s : State) (target : LineState)
      (hjoined : target = .offline ∨ s.line.state ≠ .offline ∨
        (s.locked = true ∧ s.timer.station.val < s.settings.size))
      (hpeers : target = .listen ∨ target = .offline ∨ target.synced = s.line.state.synced) :
      Evolves s (s.enter target)
  | enterTracking (s : State) (target : LineState) (r : Round) (hjoined : s.line.state ≠ .offline)
      (htarget : target.synced = true) : Evolves s ((s.enter target).startTracking r)
  | configure (s : State) (c : Settings) (hunlocked : s.locked = false) (hc : c.InRange) :
      Evolves s (s.setSettings c).restart
  | portReset (s : State) : Evolves s s.portReset
  | pullReset (s : State) : Evolves s s.pullReset
  | releaseReset (s : State) (straps : BitVec 4) (pcsLow : Bool) :
      Evolves s (s.pullReset.releaseReset straps pcsLow)
  | peer (s : State) (k : Station) (p : PeerRecord) (huse : s.peerInUse k = true) (htracking : s.peers.tracking = true)
      (hfits : 2 ≤ s.settings.lossLimit → s.settings.lossLimit ≤ 7 → (s.peer k).Fits s.settings.lossLimit →
        p.Fits s.settings.lossLimit) : Evolves s (s.setPeer k p)
  | startReached (s : State) : Evolves s (s.setPeers { s.peers with startRound := none })
  | channel (s : State) (k : ChannelIndex) (c : Channel) (hstaged : c.staged = (s.channel k).staged)
      (hruns : (s.channel k).RunFits → c.RunFits) : Evolves s (s.setChannel k c)
  | stage (s : State) (k : ChannelIndex) (i : EntryIndex) (set : ChannelSet) (hheld : (s.entry i).state = .held)
      (hmask : hasChannel (s.entry i).record.channels k = true) (hset : legalSet set = true)
      (hroom : (s.channel k).isStaged i = true ∨ (s.channel k).staged.length < 4) :
      Evolves s (s.setChannels (s.channels.set k ((s.channel k).stage i set)))
  | unstage (s : State) (k : ChannelIndex) (i : EntryIndex) (hpending : (s.entry i).pending = false) :
      Evolves s (s.setChannels (s.channels.set k ((s.channel k).discard i)))
  | marker (s : State) (k : MarkerIndex) (m : Marker) (hm : (s.marker k).Fits → m.Fits) : Evolves s (s.setMarker k m)
  | load (s : State) (i : EntryIndex) (r : LoadedRecord) (hfree : (s.entry i).state = .free)
      (hname : s.holdsName i r = false) (hlegal : legalRecord s.settings.size s.timer.station i r = true) :
      Evolves s (s.setEntry i { Entry.blank with state := .held, record := r })
  | free (s : State) (i : EntryIndex) (hdone : (s.entry i).state ≠ .done) : Evolves s (s.freeEntry i)
  | pop (s : State) (i : EntryIndex) (rest : List EntryIndex) (hhead : s.completions = i :: rest) :
      Evolves s ((s.setCompletions rest).freeEntry i)
  | reaction {s t : State} {firing : List EntryIndex} (h : TableWork firing s t)
      (hclosed : ∀ i ∈ firing, (t.entry i).state = .done) : Evolves s (State.appendClosed s t)
  | work {s t : State} (h : TableWork [] s t)
      (hdone : ∀ i, (t.entry i).state = .done → (s.entry i).state = .done) : Evolves s t

variable {s t u : State} {firing : List EntryIndex}

/-! ### The stages of a fire -/

/-- The firing set's swaps are made and its markers pulse (R132, R134). -/
def State.swapped (s : State) (firing : List EntryIndex) : State :=
  ([0, 1] : List MarkerIndex).foldl (State.pulseMarkers firing) (allChannels.foldl (State.swapChannel firing) s)

/-- The chains are taken besides, and their IMMEDIATE targets have arrived (R104, R136). -/
def State.opened (s : State) (opening : Round) (firing : List EntryIndex) : State :=
  State.arriveChained (s.swapped firing) (firing.foldl (State.takeChain opening) (s.swapped firing))

theorem State.fire_eq (s : State) (opening : Round) (firing : List EntryIndex) :
    s.fire opening firing = firing.foldl (State.closeFired opening) (s.opened opening firing) := rfl

/-! ### The table's work -/

namespace TableWork

theorem ite {p : Prop} [Decidable p] (ht : p → TableWork firing s t) (hu : ¬p → TableWork firing s u) :
    TableWork firing s (if p then t else u) := by
  split
  · exact ht ‹_›
  · exact hu ‹_›

theorem foldl {α : Type} {f : State → α → State} (hf : ∀ s a, TableWork firing s (f s a)) (s : State) (as : List α) :
    TableWork firing s (as.foldl f s) := by
  induction as generalizing s with
  | nil => exact .refl s
  | cons a as ih => exact (hf s a).trans (ih (f s a))

theorem raise (s : State) (e : Event) : TableWork firing s (s.raise e) := .aside ((raise_keeps s e).mono _)

/-- Fields of an entry that no invariant speaks of. -/
theorem noteFields (s : State) (i : EntryIndex) (e : Entry) (hrecord : e.record = (s.entry i).record := by rfl)
    (harrived : e.arrived = (s.entry i).arrived := by rfl) (hstate : e.state = (s.entry i).state := by rfl) :
    TableWork firing s (s.setEntry i e) :=
  .note s i e hrecord harrived (.inl hstate)

theorem arriveAwaited (s : State) (i : EntryIndex) (hwaits : s.awaits (s.entry i) = true)
    (hcondition : (s.entry i).record.condition ≠ .none) : TableWork firing s (s.arriveLocally i) := by
  simp only [State.awaits, Bool.and_eq_true, decide_eq_true_eq, Bool.not_eq_true'] at hwaits
  obtain ⟨⟨harmed, -⟩, harrived⟩ := hwaits
  exact .arrive s i harmed harrived hcondition

theorem arriveImmediate (s : State) (i : EntryIndex) : TableWork firing s (s.arriveImmediate i) := by
  refine .ite (fun h => ?_) fun _ => .refl s
  simp only [State.arrivesAtOnce, Bool.and_eq_true, decide_eq_true_eq] at h
  exact arriveAwaited s i h.2 (by simp [h.1])

theorem testCompletion (s : State) (i : EntryIndex) : TableWork firing s (s.testCompletion i) := by
  refine .ite (fun ⟨harmed, _⟩ => ?_) fun _ => .refl s
  refine .ite (fun _ => .note s i _ rfl rfl (.inr ⟨harmed, rfl⟩)) fun _ => ?_
  split
  · exact .close s i _ _ (by simp [harmed])
  · exact .note s i _ rfl rfl (.inr ⟨harmed, rfl⟩)

theorem recordArrival (s : State) (i : EntryIndex) (k : Station) (a : ArrivalEntry) :
    TableWork firing s (s.recordArrival i k a) := by
  simp only [State.recordArrival]
  split
  · exact (noteFields s i _).trans (.testCompletion _ i)
  · exact .ite (fun _ => .refl s) fun _ => .aside ((setCounters_keeps s _).mono _)

theorem takeArrival (s : State) (i : EntryIndex) (k : Station) (a : ArrivalEntry) :
    TableWork firing s (s.takeArrival i k a) := by
  refine .ite (fun _ => .refl s) fun _ => .ite (fun _ => .ite (fun _ => .recordArrival s i k a) fun _ => .raise s _) fun _ => ?_
  split
  · exact (noteFields s i _).trans (.recordArrival _ i k a)
  · exact .ite (fun _ => .recordArrival s i k a) fun _ => .raise s _

theorem hearArrival (k : Station) (round : Round) (s : State) (a : ArrivalEntry) :
    TableWork firing s (s.hearArrival k round a) := by
  refine .ite (fun _ => .ite (fun _ => .refl s) fun _ => ?_) fun _ => .refl s
  split
  · exact .takeArrival s _ k a
  · exact .ite (fun _ => .refl s) fun _ => .raise s _

theorem commitCarriage (round : Round) (s : State) (i : EntryIndex) : TableWork firing s (s.commitCarriage round i) :=
  .ite (fun _ => (noteFields s i { s.entry i with ownAnnounce := some round }).trans (.testCompletion _ i))
    fun _ => .refl s

/-- The closing of those entries of a list that pass a test which FREE entries fail. -/
theorem closeEach (p : State → EntryIndex → Prop) [∀ s i, Decidable (p s i)] (o : EntryOutcome) (r : Option Reason)
    (hp : ∀ s i, p s i → (s.entry i).state ≠ .free) (s : State) (l : List EntryIndex) :
    TableWork firing s (l.foldl (fun s i => if p s i then s.closeEntry i o r else s) s) :=
  foldl (fun s i => .ite (fun h => .close s i o r (hp s i h)) fun _ => .refl s) s l

theorem abandonPending (s : State) (r : Reason) :
    TableWork [] s
      (allSixteen.foldl (fun s i => if (s.entry i).pending = true then s.closeEntry i .abandoned (some r) else s) s) :=
  closeEach (fun s i => (s.entry i).pending = true) _ _
    (fun s i h hfree => by simp [Entry.pending, hfree] at h) s _

/-! ### Firing -/

theorem expireDue (s : State) (opening : Round) : TableWork firing s (s.expireDue opening) :=
  closeEach (fun s i => (s.entry i).state = .armed ∧ (s.entry i).deadlineRound = some opening) _ _
    (fun _ _ h => by simp [h.1]) s _

theorem supersede (s : State) (k : ChannelIndex) (i : EntryIndex) : TableWork firing s (s.supersede k i) :=
  noteFields s i _

theorem swapChannel (s : State) (k : ChannelIndex) : TableWork firing s (s.swapChannel firing k) := by
  simp only [State.swapChannel]
  split
  · exact .refl s
  · next winner hlast =>
    refine (swap s k _ winner (fun i hi => (List.mem_filter.mp hi).1) ?_).trans (foldl (fun s (p : StagedPair) => supersede s k p.tag) _ _)
    exact (List.mem_filter.mp (List.mem_of_getLast? hlast)).1

theorem pulseMarkers (l : List EntryIndex) (s : State) (k : MarkerIndex) : TableWork firing s (s.pulseMarkers l k) :=
  .ite (fun _ => .mark s k _ fun _ => ⟨by decide, fun h => absurd h (by decide)⟩) fun _ => .refl s

theorem takeChain (opening : Round) (s : State) (i : EntryIndex) : TableWork firing s (s.takeChain opening i) := by
  unfold State.takeChain
  split
  · exact .refl s
  · next j _ =>
    refine .ite (fun hheld => .ite (fun hstaged => ?_) fun _ => .close s j _ _ (by simp [hheld])) fun _ => .refl s
    have hnoted : ∀ x, ((s.setEntry i { s.entry i with chainTaken := true }).entry x).state = (s.entry x).state ∧
        ((s.setEntry i { s.entry i with chainTaken := true }).entry x).record = (s.entry x).record := fun x => by
      rw [State.entry_setEntry]
      split
      · next h => subst h; exact ⟨rfl, rfl⟩
      · exact ⟨rfl, rfl⟩
    refine (noteFields s i { s.entry i with chainTaken := true }).trans (.arm _ j opening ?_ ?_)
    · rw [(hnoted j).1, hheld]
    · simpa only [State.fullyStaged, State.setEntry_channel, (hnoted j).2] using hstaged

theorem arriveChained (before s : State) : TableWork firing s (State.arriveChained before s) :=
  foldl (fun s i => .ite (fun _ => .arriveImmediate s i) fun _ => .refl s) s _

theorem closeFired (opening : Round) (s : State) (i : EntryIndex) (hfree : (s.entry i).state ≠ .free) :
    TableWork firing s (s.closeFired opening i) :=
  (noteFields s i { s.entry i with actualFire := some opening }).trans (.close _ i _ _ (by simpa using hfree))

/-! ### What the work keeps -/

/-- The blocks that the table's work touches. -/
abbrev blocks : List Block := .markers :: closing ++ Machine.aside

theorem keeps (h : TableWork firing s t) : Keeps blocks s t := by
  induction h with
  | refl s => exact Keeps.refl _ s
  | trans _ _ ih ih' => exact ih.trans ih'
  | aside h => exact h.mono blocks
  | note s i e => exact (setEntry_keeps s i e).mono blocks
  | arrive s i => exact (arriveLocally_keeps s i).mono blocks
  | arm s i r => exact (startArmed_keeps s i r).mono blocks
  | close s i o r => exact (closeEntry_keeps s i o r).mono blocks
  | swap s k => exact (setChannel_keeps s k _).mono blocks
  | mark s k m => exact (setMarker_keeps s k m).mono blocks

/-- An entry of the work: it keeps its record, it is FREE if it was, and it stays DONE. -/
structure EntryKept (before after : Entry) : Prop where
  record : after.record = before.record
  free : after.state = .free ↔ before.state = .free
  done : before.state = .done → after.state = .done

theorem EntryKept.refl (e : Entry) : EntryKept e e := ⟨rfl, Iff.rfl, id⟩

theorem EntryKept.trans {a b c : Entry} (h : EntryKept a b) (h' : EntryKept b c) : EntryKept a c :=
  ⟨h'.record.trans h.record, h'.free.trans h.free, h'.done ∘ h.done⟩

/-- One entry replaced. -/
theorem EntryKept.ite {i j : EntryIndex} {e : Entry} (h : EntryKept (s.entry i) e) :
    EntryKept (s.entry j) (if j = i then e else s.entry j) := by
  split
  · next hji => exact hji ▸ h
  · exact .refl _

theorem entryKept (h : TableWork firing s t) (j : EntryIndex) : EntryKept (s.entry j) (t.entry j) := by
  induction h with
  | refl s => exact .refl _
  | trans _ _ ih ih' => exact ih.trans ih'
  | @aside s t h =>
    have he : t.entries = s.entries := h .entries (by decide)
    simpa only [State.entry, he] using EntryKept.refl _
  | note s i e hrecord _ hstate =>
    rw [State.entry_setEntry]
    refine .ite ⟨hrecord, ?_, ?_⟩
    · rcases hstate with h | ⟨h, h'⟩ <;> simp [*]
    · rcases hstate with h | ⟨h, h'⟩ <;> simp [*]
  | arrive s i =>
    rw [State.arriveLocally_entry]
    exact .ite ⟨rfl, Iff.rfl, id⟩
  | arm s i r hheld =>
    rw [State.startArmed, State.entry_setEntry]
    exact .ite ⟨rfl, by simp [hheld], by simp [hheld]⟩
  | close s i o r hfree =>
    rw [State.closeEntry_entry]
    exact .ite ⟨rfl, by simp [hfree], fun _ => rfl⟩
  | swap s k => exact .refl _
  | mark s k => exact .refl _

theorem opened (s : State) (opening : Round) : TableWork firing s (s.opened opening firing) :=
  (((foldl (fun s k => swapChannel s k) s allChannels).trans (foldl (fun s k => pulseMarkers firing s k) _ _)).trans
    (foldl (fun s i => takeChain opening s i) _ firing)).trans (arriveChained _ _)

theorem closeFiredEach (opening : Round) (l : List EntryIndex) (s : State)
    (hfree : ∀ i ∈ l, (s.entry i).state ≠ .free) : TableWork firing s (l.foldl (State.closeFired opening) s) := by
  induction l generalizing s with
  | nil => exact .refl s
  | cons i l ih =>
    have hi : TableWork firing s (s.closeFired opening i) := closeFired opening s i (hfree i (List.mem_cons_self ..))
    rw [List.foldl_cons]
    exact hi.trans (ih _ fun j hj => mt (hi.entryKept j).free.mp (hfree j (List.mem_cons_of_mem _ hj)))

/-- The table fires: the swaps, the markers, the chains and their arrivals, and the closes (R132 to R138). -/
theorem fire (s : State) (opening : Round) (hfree : ∀ i ∈ firing, (s.entry i).state ≠ .free) :
    TableWork firing s (s.fire opening firing) := by
  have hopened : TableWork firing s (s.opened opening firing) := .opened s opening
  rw [State.fire_eq]
  exact hopened.trans (closeFiredEach opening firing _ fun i hi => mt (hopened.entryKept i).free.mp (hfree i hi))

end TableWork

/-- A fired entry is DONE with its outcome and its actual fire round, and every other entry stands as it stood (R131). -/
theorem State.closeFired_entry (opening : Round) (s : State) (i j : EntryIndex) :
    (s.closeFired opening i).entry j =
      if j = i then
        { s.entry i with
          state := .done, outcome := some (if (s.entry i).late = true then .firedLate else .fired), reason := none
          actualFire := some opening }
      else s.entry j := by
  simp only [State.closeFired, State.closeEntry_entry, State.entry_setEntry, if_true]
  split <;> rfl

/-- Behind the closes of a firing set all its entries are DONE. -/
theorem State.foldl_closeFired_done (opening : Round) (l : List EntryIndex) (s : State) (j : EntryIndex)
    (hj : j ∈ l ∨ (s.entry j).state = .done) : ((l.foldl (State.closeFired opening) s).entry j).state = .done := by
  induction l generalizing s with
  | nil => simpa using hj
  | cons i l ih =>
    rw [List.foldl_cons]
    refine ih _ ?_
    rw [State.closeFired_entry]
    by_cases hji : j = i
    · exact .inr (by rw [if_pos hji])
    · rw [if_neg hji]
      exact hj.imp_left fun h => (List.mem_cons.mp h).resolve_left hji

/-- A member of the firing set is COMPLETE (R130). -/
theorem State.firingSet_complete {s : State} {opening : Round} {i : EntryIndex} (h : i ∈ s.firingSet opening) :
    (s.entry i).state = .complete := by
  unfold State.firingSet at h
  split at h
  · simp only [List.mem_filter, decide_eq_true_eq] at h
    exact h.2.1
  · simp at h

/-! ### The station's changes -/

namespace Evolves

theorem ite {p : Prop} [Decidable p] (ht : p → Evolves s t) (hu : ¬p → Evolves s u) :
    Evolves s (if p then t else u) := by
  split
  · exact ht ‹_›
  · exact hu ‹_›

theorem foldl {α : Type} {f : State → α → State} (hf : ∀ s a, Evolves s (f s a)) (s : State) (as : List α) :
    Evolves s (as.foldl f s) := by
  induction as generalizing s with
  | nil => exact .refl s
  | cons a as ih => exact (hf s a).trans (ih (f s a))

theorem counters (s : State) (x : Counters) : Evolves s (s.setCounters x) := .aside ((setCounters_keeps s x).mono _)
theorem triggers (s : State) (x : Vector Trigger 4) : Evolves s (s.setTriggers x) :=
  .aside ((setTriggers_keeps s x).mono _)
theorem latches (s : State) (x : Latches) : Evolves s (s.setLatches x) := .aside ((setLatches_keeps s x).mono _)
theorem port (s : State) (x : Port) : Evolves s (s.setPort x) := .aside ((setPort_keeps s x).mono _)
theorem raise (s : State) (e : Event) : Evolves s (s.raise e) := .latches s _

/-- Line time moves within the slot, or to a slot that ConfigFits allows, without a new correction. -/
theorem time (s : State) (x : RoundTimer) (hstation : x.station = s.timer.station := by rfl)
    (hsize : x.size = s.timer.size := by rfl) (hrate : x.rate = s.timer.rate := by rfl)
    (hslot : s.ConfigFits → x.slot = s.timer.slot ∨ x.slot.val < s.settings.size := by exact fun _ => .inl rfl)
    (hcorrection : x.correction = s.timer.correction ∨ x.correction = none := by exact .inl rfl) :
    Evolves s (s.setTimer x) := by
  refine .timer s x hstation hsize hrate (fun h => ?_) fun h => ?_
  · rcases hslot h with hs | hs
    · rw [hs]; exact h.2.2.2.2.2.2.2.1
    · exact hs
  · rcases hcorrection with hc | hc
    · rw [hc]; exact h.2.2.2.2.2.2.2.2.1
    · simp [hc]

/-- The announce queue stays, and the assembled frame stays or goes. -/
theorem frameFields (s : State) (f : FrameLayer) (hannounce : f.announce = s.frames.announce := by rfl)
    (hassembled : f.assembled = s.frames.assembled ∨ f.assembled = none := by exact .inl rfl) :
    Evolves s (s.setFrames f) := by
  refine .frames s f (fun _ => by rw [hannounce]) fun h g hg => ?_
  rcases hassembled with ha | ha
  · exact h.2.2 g (ha ▸ hg)
  · simp [ha] at hg

/-- A table's reaction in which nothing fires. -/
theorem react (work : State → State) (h : TableWork [] s (work s)) : Evolves s (s.tableReaction work) :=
  .reaction h (by simp)

/-! ### Entries -/

theorem lossNotice (s : State) (lost : StationSet) : Evolves s (s.lossNotice lost) :=
  .react _ (.closeEach (fun s i => (s.entry i).state = .armed ∧ (s.entry i).lacks lost = true) _ _
    (fun _ _ h => by simp [h.1]) s _)

theorem hearArrivals (s : State) (k : Station) (round : Round) (l : List ArrivalEntry) :
    Evolves s (s.hearArrivals k round l) :=
  .react _ (.foldl (.hearArrival k round) s l)

theorem tableBoundary (s : State) (opening : Round) : Evolves s (s.tableBoundary opening) := by
  have hexpired : ∀ l, TableWork l s (s.expireDue opening) := fun l => .expireDue s opening
  refine .reaction ((hexpired ((s.expireDue opening).firingSet opening)).trans (.fire _ opening fun i hi => ?_)) fun i hi => ?_
  · simp [State.firingSet_complete hi]
  · exact State.foldl_closeFired_done _ _ _ _ (.inl hi)

/-- One entry arrives. -/
theorem arrives (s : State) (i : EntryIndex) (harmed : (s.entry i).state = .armed)
    (hwaits : (s.entry i).arrived = false) (hcondition : (s.entry i).record.condition ≠ .none) :
    Evolves s (s.arriveLocally i) := by
  refine .work (.arrive s i harmed hwaits hcondition) fun j hj => ?_
  rw [State.arriveLocally_entry] at hj
  split at hj
  · simp [harmed] at hj
  · exact hj

theorem arrivesAwaited (s : State) (i : EntryIndex) (hwaits : s.awaits (s.entry i) = true)
    (hcondition : (s.entry i).record.condition ≠ .none) : Evolves s (s.arriveLocally i) := by
  simp only [State.awaits, Bool.and_eq_true, decide_eq_true_eq, Bool.not_eq_true'] at hwaits
  obtain ⟨⟨harmed, -⟩, harrived⟩ := hwaits
  exact arrives s i harmed harrived hcondition

theorem armEntry (s : State) (i : EntryIndex) (r : Round) (hheld : (s.entry i).state = .held)
    (hstaged : s.fullyStaged i = true) : Evolves s (s.armEntry i r) := by
  refine .work ((TableWork.arm s i r hheld hstaged).trans (.arriveImmediate _ i)) fun j hj => ?_
  rw [State.armEntry_entry] at hj
  split at hj
  · simp at hj
  · exact hj

/-! ### Channels and triggers -/

theorem countPeriodEnd (k : ChannelIndex) (s : State) (i : EntryIndex) : Evolves s (s.countPeriodEnd k i) := by
  unfold State.countPeriodEnd
  split
  · next c n hcondition =>
    refine .ite (fun ⟨_, hwaits⟩ => ?_) fun _ => .refl s
    have hcounted : Evolves s (s.setEntry i { s.entry i with channelCount := (s.entry i).channelCount + 1#8 }) := by
      refine .work (.noteFields s i _) fun j hj => ?_
      rw [State.entry_setEntry] at hj
      split at hj
      · next h => exact h ▸ hj
      · exact hj
    refine .ite (fun _ => hcounted.trans (arrivesAwaited _ i ?_ ?_)) fun _ => hcounted
    · rw [State.entry_setEntry, if_pos rfl]
      exact hwaits
    · simp [hcondition]
  · exact .refl s

theorem deliverPeriodEnd (s : State) (k : ChannelIndex) : Evolves s (s.deliverPeriodEnd k) :=
  .foldl (countPeriodEnd k) s _

end Evolves

/-! ### What the channel's changes do to a runtime state -/

namespace Channel.RunFits

variable {c : Channel}

/-- A WAITING channel has a PERIODIC or BURST set, and stands at position 0. -/
theorem mode_of_moves (h : c.RunFits) (hr : c.run ≠ .idle) : c.active.mode = .periodic ∨ c.active.mode = .burst := by
  obtain ⟨-, hidle, -⟩ := h
  cases hm : c.active.mode <;> simp_all

/-- A set that moves has a period of 2 beats or more (R146). -/
theorem period_pos (h : c.RunFits) (hr : c.run ≠ .idle) : 2 ≤ c.active.period.toNat := by
  have hl := h.1
  rcases h.mode_of_moves hr with hm | hm <;> simp [legalSet, hm] at hl <;> exact hl.2.1

theorem phaseEnded (h : c.RunFits) (hr : c.run = .waiting) : c.phaseEnded.RunFits := by
  have hp := h.period_pos (by simp [hr])
  obtain ⟨hl, hidle, -, -, -, hb⟩ := h
  refine ⟨hl, ?_, ?_, ?_, ?_, ?_⟩ <;> simp_all [Channel.phaseEnded]
  omega

theorem fallen (h : c.RunFits) (hr : c.run = .running) (hp : c.active.high.toNat < c.active.period.toNat) :
    c.fallen.RunFits := by
  obtain ⟨hl, hidle, hf, hw, -, hb⟩ := h
  refine ⟨hl, hidle, hf, hw, ?_, hb⟩
  simp [Channel.fallen, hr, hp]

theorem periodEnded (h : c.RunFits) (hr : c.run = .running) : c.periodEnded.RunFits := by
  have hp := h.period_pos (by simp [hr])
  have hm := h.mode_of_moves (by simp [hr])
  obtain ⟨hl, hidle, hf, hw, hpos, hb⟩ := h
  unfold Channel.periodEnded
  split
  · next hburst =>
    split
    · refine ⟨hl, ?_, ?_, ?_, ?_, ?_⟩ <;> simp_all
    · refine ⟨hl, ?_, ?_, ?_, ?_, ?_⟩ <;> simp_all <;> omega
  · refine ⟨hl, ?_, ?_, ?_, ?_, ?_⟩ <;> simp_all
    omega

theorem advance (h : c.RunFits) (hn : c.nextChange = none) : c.advance.RunFits := by
  obtain ⟨hl, hidle, hf, hw, hpos, hb⟩ := h
  unfold Channel.advance
  unfold Channel.nextChange at hn
  cases hr : c.run with
  | waiting =>
    simp only [hr] at hn ⊢
    refine ⟨hl, ?_, ?_, ?_, ?_, ?_⟩ <;> simp_all
    omega
  | running =>
    simp only [hr] at hn ⊢
    have hnot : ¬c.active.period.toNat ≤ c.position + 1 := fun hle => by simp [hle] at hn
    refine ⟨hl, ?_, ?_, ?_, ?_, ?_⟩ <;> simp_all
  | idle => exact ⟨hl, hidle, hf, hw, hpos, hb⟩
  | finished => exact ⟨hl, hidle, hf, hw, hpos, hb⟩

theorem setOwed (h : c.RunFits) (b : Bool) : { c with owed := b }.RunFits := h

theorem beat (h : c.RunFits) (holding : Bool) : (c.beat holding).RunFits := by
  unfold Channel.beat
  split
  · exact h
  · split
    · next hn => exact h.advance hn
    · exact h.setOwed true

end Channel.RunFits

theorem Channel.periodEnded_staged (c : Channel) : c.periodEnded.staged = c.staged := by
  unfold Channel.periodEnded
  split
  · split <;> rfl
  · rfl

theorem Channel.advance_staged (c : Channel) : c.advance.staged = c.staged := by
  unfold Channel.advance
  split <;> rfl

theorem Channel.beat_staged (c : Channel) (holding : Bool) : (c.beat holding).staged = c.staged := by
  unfold Channel.beat
  split
  · rfl
  · split
    · exact c.advance_staged
    · rfl

end Sys2Proof.Machine
end

section
/-!
PROOFS that every command, and every step, is made of the changes that `Evolves` lists: the model's operations one by
one, in the order of their definitions.
-/

namespace Sys2Proof.Machine

-- One lemma after another: side by side, the evaluations of `decide` would each hold a thread.
set_option Elab.async false

variable {s t u : State}

/-- Line time is what it was, with the correction cleared (R9). -/
theorem State.applyCorrection_timer (s : State) (order : List ChannelIndex) :
    (s.applyCorrection order).timer = { s.timer with correction := none } := by
  unfold State.applyCorrection
  split
  · next hnone => rw [← hnone]
  · have hskipped (n : Nat) : (s.skipBeats order n).timer = s.timer := skipBeats_keeps s order n .timer (by decide)
    dsimp only
    split
    · rw [State.setTimer_timer, hskipped]
    · rfl

/-! ### What the tests of the model give -/

theorem PeerRecord.closed_fits {p : PeerRecord} {c : Round} {limit : Nat} (h2 : 2 ≤ limit) (h7 : limit ≤ 7)
    (hp : p.Fits limit) : (p.closed c limit).Fits limit := by
  obtain ⟨hs, hpresent⟩ := hp
  unfold PeerRecord.closed
  split
  · next hheard =>
    simp only [PeerRecord.heard, Bool.and_eq_true, Bool.not_eq_true'] at hheard
    exact ⟨by simp, fun _ => ⟨by simp; omega, hheard.2⟩⟩
  · refine ⟨?_, fun h => ?_⟩
    · have hmax : Config.maxSilence = 7 := rfl
      dsimp only
      split <;> omega
    · simp only [Bool.and_eq_true, decide_eq_true_eq] at h
      obtain ⟨hlimit, -⟩ := hpresent h.1
      have hne := h.2
      refine ⟨?_, rfl⟩
      dsimp only
      split at hne
      · next hlt => rw [if_pos hlt]; omega
      · next hlt => rw [if_neg hlt]; exact hlimit

theorem Marker.Fits.beat {m : Marker} (h : m.Fits) : m.beat.Fits := by
  obtain ⟨hlength, hlow⟩ := h
  unfold Marker.beat
  split
  · next hhigh => exact ⟨by dsimp only; omega, fun h => by simp [hhigh] at h⟩
  · exact ⟨hlength, hlow⟩

/-- The rotation moves members to the tail, and loses and doubles none (R30). -/
theorem AnnounceQueue.rotate_perm {q : AnnounceQueue} {named : List EntryIndex} (hq : q.all.Nodup) (hnamed : named.Nodup) :
    (q.rotate named).all.Perm q.all := by
  have hnot (l : List EntryIndex) : (l.filter fun i => !named.contains i) = l.filter fun i => !decide (i ∈ named) := by
    simp
  have hrotated : (q.rotate named).all =
      (q.all.filter fun i => !decide (i ∈ named)) ++ named.filter fun i => decide (i ∈ q.all) := by
    simp [AnnounceQueue.rotate, AnnounceQueue.all, List.filter_append]
  have hback : (named.filter fun i => decide (i ∈ q.all)).Perm (q.all.filter fun i => decide (i ∈ named)) :=
    (List.perm_ext_iff_of_nodup (List.Pairwise.filter _ hnamed) (List.Pairwise.filter _ hq)).mpr fun i => by simp [and_comm]
  rw [hrotated]
  exact ((List.Perm.append_left _ hback).trans List.perm_append_comm).trans (List.filter_append_perm _ _)

/-- A good frame begins at beat 16 to 48, and its sender is a peer in use (R8, R22). -/
theorem State.classify_good {rx : Reception} {f : Frame} (h : s.classify rx f = .good) :
    16 ≤ rx.startBeat ∧ rx.startBeat ≤ 48 ∧ s.peerInUse f.sender = true := by
  unfold State.classify at h
  split at h
  · simp at h
  · next hnot =>
    simp only [not_or, Nat.not_lt, Nat.not_le] at hnot
    obtain ⟨hfirst, hlast, -, hsize, -, hown⟩ := hnot
    exact ⟨hfirst, hlast, by simp [State.peerInUse, hsize, hown]⟩

theorem State.fromPeer_lt {f : Frame} (h : s.fromPeer f = true) : f.sender.val < s.settings.size := by
  simp only [State.fromPeer, decide_eq_true_eq] at h
  exact h.1

/-- The slot that follows is a slot of the round (R2). -/
theorem State.nextSlot_lt (h : s.ConfigFits) : s.timer.nextSlot.val < s.settings.size := by
  obtain ⟨hsize, -, -, -, -, htimer, -⟩ := h
  unfold RoundTimer.nextSlot
  split
  · split
    · next hlt => exact htimer ▸ hlt
    · simp; omega
  · simp; omega

/-- The values that CONFIGURE accepts lie in their ranges (R186). -/
theorem Settings.inRange_of_decode {args : List Byte} {c : Settings} (h : decodeSettings args = some c) : c.InRange := by
  unfold decodeSettings at h
  split at h
  · dsimp only at h
    split at h
    · simp at h
    · split at h
      · next hr =>
        obtain ⟨-, -, hsize, hsize', hloss, hloss', hlead⟩ := hr
        obtain rfl := Option.some.inj h
        exact ⟨hsize, hsize', hloss, hloss', hlead⟩
      · simp at h
  · simp at h

theorem legalSet_of_decode {bytes : List Byte} {c : ChannelSet} (h : decodeSet bytes = some c) : legalSet c = true := by
  unfold decodeSet at h
  split at h
  · dsimp only at h
    split at h
    · next hc => exact Option.some.inj h ▸ hc.2
    · simp at h
  · simp at h

/-- A command that is carried out leaves the state that it is said to. -/
theorem State.accept_state (s : State) : s.accept.state = s := rfl

theorem popCommand_state (s : State) : (popCommand s).state = s := by
  unfold popCommand
  split <;> rfl

theorem readEntryCommand_state (s : State) (index : Byte) : (readEntryCommand index s).state = s := by
  unfold readEntryCommand
  split <;> rfl

theorem readChannelCommand_state (s : State) (channel : Byte) : (readChannelCommand channel s).state = s := by
  unfold readChannelCommand
  split <;> rfl

/-! ### Every operation is made of the changes -/

namespace Evolves

/-- A fold whose members keep a property that the changes need. -/
theorem foldlWith {α : Type} {f : State → α → State} (P : State → Prop) (hf : ∀ s a, P s → Evolves s (f s a) ∧ P (f s a))
    (s : State) (hs : P s) (as : List α) : Evolves s (as.foldl f s) := by
  induction as generalizing s with
  | nil => exact .refl s
  | cons a as ih =>
    obtain ⟨h, h'⟩ := hf s a hs
    exact h.trans (ih _ h')

theorem endPeriod (s : State) (k : ChannelIndex) : Evolves s (s.endPeriod k) :=
  .ite (fun hr => (channel s k _ (Channel.periodEnded_staged _) fun h => h.periodEnded hr).trans (deliverPeriodEnd _ k))
    fun _ => .refl s

theorem endPhaseWait (s : State) (k : ChannelIndex) : Evolves s (s.endPhaseWait k) :=
  .ite (fun hr => channel s k _ rfl fun h => h.phaseEnded hr) fun _ => .refl s

theorem fall (s : State) (k : ChannelIndex) : Evolves s (s.fall k) :=
  .ite (fun ⟨hr, _, hp⟩ => channel s k _ rfl fun h => h.fallen hr hp) fun _ => .refl s

theorem takeChange (s : State) (k : ChannelIndex) (c : ChannelChange) : Evolves s (s.takeChange k c) := by
  cases c with
  | phaseWaitEnd => exact endPhaseWait s k
  | highToLow => exact fall s k
  | periodEnd => exact endPeriod s k

theorem advanceChannel (s : State) (k : ChannelIndex) : Evolves s (s.advanceChannel k) := by
  unfold State.advanceChannel
  split
  · next hn => exact channel s k _ (Channel.advance_staged _) fun h => (h.advance hn).setOwed false
  · exact takeChange s k _

theorem skipBeats (s : State) (order : List ChannelIndex) (n : Nat) : Evolves s (s.skipBeats order n) :=
  (foldl (fun s k => .ite (fun _ => advanceChannel s k) fun _ => .refl s) s order).trans
    (foldl (fun s _ => foldl advanceChannel s order) _ _)

theorem applyCorrection (s : State) (order : List ChannelIndex) : Evolves s (s.applyCorrection order) := by
  unfold State.applyCorrection
  split
  · exact .refl s
  · exact (Evolves.ite (fun _ => skipBeats s order _) fun _ => .refl s).trans (time _ _ (hcorrection := .inr rfl))

theorem deliverEdge (s : State) (k : InputIndex) (rising : Bool) : Evolves s (s.deliverEdge k rising) :=
  foldl (fun s i => by
    split
    · next hcondition => exact .ite (fun h => arrivesAwaited s i h.2.1 (by simp [hcondition])) fun _ => .refl s
    · exact .refl s) s _

theorem sampleTrigger (s : State) (k : InputIndex) (high : Bool) : Evolves s (s.sampleTrigger k high) := by
  unfold State.sampleTrigger
  split
  · exact triggers s _
  · exact .ite (fun _ => .refl s) fun _ => (triggers s _).trans (deliverEdge _ k high)

/-! ### Peers -/

theorem raisePeers (s : State) (joined lost : StationSet) : Evolves s (s.raisePeers joined lost) := latches s _

theorem closePeers (s : State) (c : Round) (htracking : s.peers.tracking = true) : Evolves s (s.closePeers c) := by
  have hclosed := foldlWith
    (f := fun s k => if s.peerInUse k = true then s.setPeer k ((s.peer k).closed c s.settings.lossLimit) else s)
    (fun s => s.peers.tracking = true)
    (fun s k hs => by
      split
      · next huse => exact ⟨peer s k _ huse hs fun h2 h7 => PeerRecord.closed_fits h2 h7, hs⟩
      · exact ⟨.refl s, hs⟩) s htracking allSixteen
  have hraised := hclosed.trans (raisePeers _ (s.peersThat c fun p q => !p.present && q.present)
    (s.peersThat c fun p q => p.present && !q.present))
  exact .ite (fun _ => hraised) fun _ => hraised.trans (lossNotice _ _)

theorem peersBoundary (s : State) (c : Round) : Evolves s (s.peersBoundary c) := by
  refine .ite (fun htracking => ?_) fun _ => .refl s
  split
  · exact closePeers s c htracking
  · exact .ite (fun _ => (startReached s).trans (closePeers _ c htracking)) fun _ => .refl s

/-- A good frame's sender is a peer in use. -/
theorem hearPeer (s : State) (f : Frame) (huse : s.peerInUse f.sender = true) : Evolves s (s.hearPeer f) :=
  .ite (fun htracking => peer s f.sender _ huse htracking fun _ _ h => h) fun _ => .refl s

theorem departPeer (s : State) (f : Frame) (huse : s.peerInUse f.sender = true) : Evolves s (s.departPeer f) := by
  refine .ite (fun ⟨htracking, _⟩ => ?_) fun _ => .refl s
  refine .trans (.trans (peer s f.sender _ huse htracking ?_) (raisePeers _ _ _)) (lossNotice _ _)
  exact fun _ _ h => ⟨h.1, fun hp => by simp at hp⟩

/-! ### The line controller -/

theorem enterIdle (s : State) (target : LineState) (hjoined : s.line.state ≠ .offline)
    (htarget : target = .listen ∨ target = .offline) : Evolves s (s.enter target) :=
  .enter s target (.inr (.inl hjoined)) (htarget.elim .inl fun h => .inr (.inl h))

theorem enterSynced (s : State) (target : LineState) (hsynced : s.line.state.synced = true)
    (htarget : target.synced = true) : Evolves s (s.enter target) :=
  .enter s target (.inr (.inl fun h => by simp [h, LineState.synced] at hsynced)) (.inr (.inr (htarget.trans hsynced.symm)))

theorem jump (s : State) (round : Round) (slot : Station) (beat : Nat)
    (hslot : s.ConfigFits → slot.val < s.settings.size) : Evolves s (s.jump round slot beat) :=
  ((time s _ (hslot := fun h => .inr (hslot h)) (hcorrection := .inr rfl)).trans (frameFields _ _)).trans
    (frameFields _ _ (hassembled := .inr rfl))

theorem adopt (s : State) (f : Frame) (hjoined : s.line.state ≠ .offline)
    (hsender : f.sender.val < s.settings.size) : Evolves s (s.adopt f) :=
  ((jump s _ _ _ fun _ => hsender).trans (enterTracking _ .integrating _ hjoined rfl)).trans
    (line _ _ rfl)

theorem yield (s : State) (hjoined : s.line.state ≠ .offline) : Evolves s s.yield :=
  .ite (fun _ => enterIdle s .offline hjoined (.inr rfl)) fun _ =>
    (enterIdle s .listen hjoined (.inl rfl)).trans (raise _ _)

theorem exclusionCheck (s : State) (c : Round) (hactive : s.line.state = .active) : Evolves s (s.exclusionCheck c) := by
  have hjoined : s.line.state ≠ .offline := by simp [hactive]
  have hsynced : s.line.state.synced = true := by simp [hactive, LineState.synced]
  refine .ite (fun _ => .ite (fun _ => line s _ rfl) fun _ => .ite (fun _ => ?_) fun _ => ?_) fun _ => line s _ rfl
  · exact enterIdle s .offline hjoined (.inr rfl)
  · exact (line s { s.line with hold := 0 } rfl).trans (enterSynced (s.setLine { s.line with hold := 0 }) .passive hsynced rfl)

theorem lineBoundary (s : State) (c opening : Round) (good foreign : StationSet) :
    Evolves s (s.lineBoundary c opening good foreign) := by
  unfold State.lineBoundary
  split
  case h_1 => exact .refl s
  case h_2 => exact .refl s
  case h_3 h =>
    refine .ite (fun _ => ?_) fun _ => .refl s
    refine ((enterTracking s .active opening (by simp [h]) rfl).trans ?_).trans (raise _ .alone)
    exact line _ _ rfl
  case h_4 h =>
    have hends : Evolves s (s.integrationEnds good) :=
      .ite (fun _ => enterIdle s .listen (by simp [h]) (.inl rfl)) fun _ =>
        enterSynced s .active (by simp [h, LineState.synced]) rfl
    exact .ite (fun _ => hends) fun _ => .refl s
  case h_5 h => exact .ite (fun _ => yield s (by simp [h])) fun _ => exclusionCheck s c h
  case h_6 h =>
    refine .ite (fun _ => yield s (by simp [h])) fun _ => .ite (fun _ => line s _ rfl) fun _ => ?_
    exact (enterSynced s .integrating (by simp [h, LineState.synced]) rfl).trans (line _ _ rfl)

/-! ### Frames -/

/-- The frame names members of the announce queue, each once (R29). -/
theorem assemble (s : State) : Evolves s s.assemble := by
  refine .ite (fun _ => .frames s _ (fun _ => .refl _) fun h g hg => ?_) fun _ => .refl s
  obtain rfl := Option.some.inj hg
  exact h.1.sublist (List.take_sublist _ _)

theorem takeOwnOpening (s : State) : Evolves s s.takeOwnOpening :=
  .ite (fun _ => (time s _).trans (assemble _)) fun _ => .refl s

theorem beginTransmission (s : State) (f : OwnFrame) (hf : s.frames.assembled = some f) :
    Evolves s (s.beginTransmission f) := by
  have hrotated : Evolves s (s.setFrames
      { s.frames with
        assembled := none, mark := true
        announce := s.frames.announce.rotate f.named
        transmitting := some { kind := f.frame.kind, bytes := encodeFrame f.frame, elapsed := 0 } }) :=
    .frames s _ (fun h => AnnounceQueue.rotate_perm h.1 (h.2.2 f hf)) fun _ g hg => by simp at hg
  simp only [State.beginTransmission]
  refine hrotated.trans (.trans ?_ (port _ _))
  refine .trans ?_ (react _ (.foldl (.commitCarriage f.frame.round) _ f.carriage))
  exact line _ _ rfl

theorem sendFrame (s : State) : Evolves s s.sendFrame := by
  unfold State.sendFrame
  split
  · exact .refl s
  · next f hf => exact .ite (fun _ => beginTransmission s f hf) fun _ => frameFields s _ (hassembled := .inr rfl)

theorem ownFrameDone (s : State) (kind : FrameKind) (passed : Bool) : Evolves s (s.ownFrameDone kind passed) := by
  refine .ite (fun _ => .ite (fun _ => .refl s) fun h => enterIdle s .offline h (.inr rfl)) fun _ =>
    .ite (fun h => ?_) fun _ => .refl s
  have hjoined : s.line.state ≠ .offline := by simp [h.2.1]
  exact (line s { s.line with coldSent := 0 } rfl).trans
    (enterIdle (s.setLine { s.line with coldSent := 0 }) .listen hjoined (.inl rfl))

theorem endOwnFrame (s : State) (heard : List LineBeat) : Evolves s (s.endOwnFrame heard) := by
  unfold State.endOwnFrame
  split
  · exact .refl s
  · exact (((port s _).trans (frameFields s.passInstant _)).trans (counters _ _)).trans (ownFrameDone _ _ _)

theorem hearForeign (s : State) (f : Frame) : Evolves s (s.hearForeign f) :=
  .ite (fun _ => (counters s _).trans (frameFields s.countForeign _)) fun _ => counters s _

theorem hearGood (s : State) (rx : Reception) (f : Frame) (hfirst : 16 ≤ rx.startBeat) (hlast : rx.startBeat ≤ 48) :
    Evolves s (s.hearGood rx f) := by
  refine ((counters s _).trans (frameFields _ _)).trans
    (.timer _ _ rfl rfl rfl (fun h => h.2.2.2.2.2.2.2.1) fun _ d hd => ?_)
  simp only [Config.sendOffset, Option.mem_def, Option.some.injEq] at hd
  omega

theorem deliverGood (s : State) (f : Frame) (noticeFirst : Bool) (huse : s.peerInUse f.sender = true) :
    Evolves s (s.deliverGood f noticeFirst) := by
  have hheard := hearPeer s f huse
  have huse' : (s.hearPeer f).peerInUse f.sender = true := by
    unfold State.hearPeer
    split <;> exact huse
  have harrivals (t : State) := hearArrivals t f.sender f.round f.arrivals
  have huse'' : ((s.hearPeer f).hearArrivals f.sender f.round f.arrivals).peerInUse f.sender = true := by
    have hk := hearArrivals_keeps (s.hearPeer f) f.sender f.round f.arrivals
    have hsettings := hk .settings (by decide)
    have htimer := hk .timer (by decide)
    simp only [Block.same] at hsettings htimer
    simpa only [State.peerInUse, hsettings, htimer] using huse'
  exact .ite
    (fun _ => .ite (fun _ => (hheard.trans (departPeer _ f huse')).trans (harrivals _))
      fun _ => (hheard.trans (harrivals _)).trans (departPeer _ f huse''))
    fun _ => hheard.trans (harrivals _)

theorem clearAlone (s : State) : Evolves s s.clearAlone := .ite (fun _ => line s _ rfl) fun _ => .refl s

theorem frameInRound (s : State) (rx : Reception) (f : Frame) (noticeFirst : Bool) :
    Evolves s (s.frameInRound rx f noticeFirst) := by
  unfold State.frameInRound
  split
  · exact hearForeign s f
  · next hgood =>
    obtain ⟨hfirst, hlast, huse⟩ := State.classify_good hgood
    refine (((port s _).trans (hearGood s.passInstant rx f hfirst hlast)).trans (clearAlone _)).trans
      (deliverGood _ f noticeFirst ?_)
    unfold State.clearAlone
    split <;> exact huse

theorem coldFrameHeard (s : State) (f : Frame) (c : FrameClass) (hcold : s.line.state = .coldstart)
    (hsender : f.sender.val < s.settings.size) : Evolves s (s.coldFrameHeard f c) := by
  have hjoined : s.line.state ≠ .offline := by simp [hcold]
  refine .ite (fun _ => ?_) fun _ => .ite (fun _ => adopt s f hjoined hsender) fun _ => .refl s
  exact (line s { s.line with coldSent := 0 } rfl).trans (enterTracking _ .active _ hjoined rfl)

theorem frameInColdstart (s : State) (rx : Reception) (f : Frame) (hcold : s.line.state = .coldstart) :
    Evolves s (s.frameInColdstart rx f) := by
  simp only [State.frameInColdstart]
  cases hclass : s.classify rx f with
  | good =>
    obtain ⟨hfirst, hlast, -⟩ := State.classify_good hclass
    have hheard := hearGood s rx f hfirst hlast
    exact .ite (fun h => hheard.trans (coldFrameHeard _ f _ hcold (State.fromPeer_lt h))) fun _ => hheard
  | foreign =>
    have hheard := hearForeign s f
    have hsame : (s.hearForeign f).line = s.line ∧ (s.hearForeign f).settings = s.settings := by
      unfold State.hearForeign
      dsimp only
      split <;> exact ⟨rfl, rfl⟩
    refine .ite (fun h => hheard.trans (coldFrameHeard _ f _ (by rw [hsame.1, hcold]) ?_)) fun _ => hheard
    rw [hsame.2]
    exact State.fromPeer_lt h

theorem restartListen (s : State) : Evolves s s.restartListen := line s _ rfl

theorem frameInListen (s : State) (f : Frame) (hlisten : s.line.state = .listen) : Evolves s (s.frameInListen f) :=
  .ite (fun h => (counters s _).trans (adopt s.countForeign f (by simp [State.countForeign, hlisten]) (State.fromPeer_lt h.1)))
    fun _ => (counters s _).trans (restartListen _)

theorem activityEnds (s : State) (rx : Reception) (noticeFirst : Bool) : Evolves s (s.activityEnds rx noticeFirst) := by
  unfold State.activityEnds
  split
  · exact .refl s
  · next hlisten =>
    unfold State.listenEnds
    split
    · exact restartListen s
    · exact (counters s _).trans (restartListen _)
    · exact frameInListen s _ hlisten
  · next hcold =>
    split
    · exact .refl s
    · exact counters s _
    · exact frameInColdstart s rx _ hcold
  · split
    · exact .refl s
    · exact counters s _
    · exact frameInRound s rx _ _

theorem receptionEnds (s : State) (rx : Reception) (noticeFirst : Bool) :
    Evolves s (s.receptionEnds rx noticeFirst) :=
  .ite (fun _ => .refl s) fun _ => activityEnds s rx noticeFirst

/-! ### Line time -/

theorem openRound (s : State) : Evolves s (s.setTimer s.timer.openRound) :=
  time s _ (hslot := fun h => .inr (by simp [RoundTimer.openRound]; have := h.1; omega))

theorem openNext (s : State) : Evolves s (s.setTimer { s.timer.openNext with opening := false }) := by
  unfold RoundTimer.openNext
  split
  · exact time s _ (hslot := fun h => .inr (by simp [RoundTimer.openRound]; have := h.1; omega))
  · exact time s _ (hslot := fun h => .inr (State.nextSlot_lt h))

theorem reactionOf (s : State) (opening : Round) (r : RoundRecords) (x : BoundaryReaction) :
    Evolves s (s.reactionOf opening r x) := by
  cases x with
  | view => exact frameFields s _
  | peers => exact peersBoundary s _
  | line => exact lineBoundary s _ _ _ _
  | table => exact ((time s { s.timer with round := opening }).trans (tableBoundary _ opening)).trans (port _ _)
  | assembly => exact .refl s

theorem reactTo (s : State) (x : BoundaryReaction) : Evolves s (s.react x) := by
  refine .ite (fun _ => .ite (fun _ => takeOwnOpening s) fun _ => .refl s) fun _ => ?_
  split
  · exact .refl s
  · exact .ite (fun _ => (time s _).trans (reactionOf _ _ _ x)) fun _ => .refl s

theorem beginBoundary (s : State) : Evolves s s.beginBoundary := by
  have hreached : Evolves s (if s.timer.dueBoundary.isSome = true then s else s.reachRound) :=
    .ite (fun _ => .refl s) fun _ => (applyCorrection s _).trans (openRound _)
  simp only [State.beginBoundary]
  split
  · exact hreached
  · exact .ite (fun _ => hreached) fun _ => (hreached.trans (time _ _)).trans (frameFields _ _)

theorem takeBoundary (s : State) (order : List BoundaryReaction) : Evolves s (s.takeBoundary order) :=
  (beginBoundary s).trans (foldl reactTo _ order)

/-- The cold start stands in the own slot (R12, R42). -/
theorem expireListen (s : State) (hlisten : s.line.state = .listen) : Evolves s s.expireListen := by
  have hentered : Evolves (s.setLine { s.line with coldSent := 0 })
      ((s.setLine { s.line with coldSent := 0 }).enter .coldstart) :=
    .enter _ .coldstart (.inr (.inl (by rw [State.setLine_line, hlisten]; decide)))
      (.inr (.inr (by rw [State.setLine_line, hlisten]; decide)))
  refine (((line s { s.line with coldSent := 0 } rfl).trans hentered).trans (jump _ _ _ _ fun h => ?_)).trans (assemble _)
  have htimer : ((s.setLine { s.line with coldSent := 0 }).enter .coldstart).timer = s.timer :=
    enter_keeps _ .coldstart .timer (by decide)
  have hstation := h.2.2.2.2.2.2.2.2.2.2 (by rw [State.enter_line]; simp [State.changedLine])
  rwa [htimer] at hstation

theorem openSlot (s : State) (order : List ChannelIndex) : Evolves s (s.openSlot order) :=
  .ite (fun _ => time s _) fun _ => (applyCorrection s _).trans (openNext _)

/-- The own slot is a slot of the round (R2). -/
theorem reachOwnSlot (s : State) (hown : s.timer.hasOwnSlot = true) : Evolves s s.reachOwnSlot := by
  have htimer := s.applyCorrection_timer allChannels
  simp only [RoundTimer.hasOwnSlot, decide_eq_true_eq] at hown
  refine (applyCorrection s allChannels).trans ?_
  rw [State.reachOwnSlot]
  split
  · exact openRound _
  · refine time _ _ (hslot := fun h => .inr ?_)
    have hsize := h.2.2.2.2.2.1
    rw [htimer] at hsize
    simp only [RoundTimer.openSlot, htimer, ← hsize, hown]

/-- One beat passes (log entry 1). -/
theorem passBeat (s : State) : Evolves s s.passBeat := by
  have hchannels : Evolves s (allChannels.foldl (fun t k => t.setChannel k ((t.channel k).beat s.timer.holding)) s) :=
    foldl (fun t k => channel t k _ (Channel.beat_staged _ _) fun h => h.beat _) s allChannels
  have hmarkers (t : State) : Evolves t (([0, 1] : List MarkerIndex).foldl (fun s k => s.setMarker k (s.marker k).beat) t) :=
    foldl (fun t k => marker t k _ Marker.Fits.beat) t _
  refine .trans ?_ (time _ _)
  refine .trans ?_ (frameFields _ _)
  refine .trans (hchannels.trans (hmarkers _)) ?_
  exact line _ _ rfl

/-! ### The commands of the port

Each lemma speaks of the state that the owning block leaves; a refusal leaves the state that it found. -/

theorem freeUnfit (s : State) (n : Nat) : Evolves s (s.freeUnfit n) :=
  foldl (fun s i => .ite (fun h => .free s i (by simp [h.1])) fun _ => .refl s) s _

theorem configureCommand (s : State) (args : List Byte) : Evolves s (Machine.configureCommand args s).state := by
  unfold Machine.configureCommand
  split
  · exact .refl s
  · next hlocked =>
    split
    · exact .refl s
    · next c hc =>
      have hunlocked : s.locked = false := by simpa using hlocked
      have hreplaced := Evolves.configure s c hunlocked (Settings.inRange_of_decode hc)
      have hfreed := freeUnfit (s.setSettings c).restart c.size
      rw [State.accept_state]
      exact hreplaced.trans hfreed

theorem joinCommand (s : State) : Evolves s (Machine.joinCommand s).state := by
  unfold Machine.joinCommand
  split
  · exact .refl s
  · split
    · exact .refl s
    · next hsize => 
      refine (lock s).trans (.enter (s.setLocked true) .listen (.inr (.inr ⟨rfl, ?_⟩)) (.inl rfl))
      exact Nat.lt_of_not_le hsize

theorem leaveCommand (s : State) : Evolves s (Machine.leaveCommand s).state := by
  unfold Machine.leaveCommand
  split
  · exact .refl s
  · exact line s _ rfl
  · exact .enter s .offline (.inl rfl) (.inr (.inl rfl))

theorem loadCommand (s : State) (index : Byte) (record : List Byte) :
    Evolves s (Machine.loadCommand index record s).state := by
  unfold Machine.loadCommand
  split
  · exact .refl s
  · split
    · exact .refl s
    · next hfree =>
      split
      · exact .refl s
      · split
        · exact .refl s
        · next hlegal =>
          split
          · exact .refl s
          · next hname => exact .load s _ _ (by simpa using hfree) (by simpa using hname) (by simpa using hlegal)

theorem armCommand (s : State) (index : Byte) : Evolves s (Machine.armCommand index s).state := by
  unfold Machine.armCommand
  split
  · exact .refl s
  · split
    · exact .refl s
    · next hheld =>
      split
      · exact .refl s
      · split
        · exact .refl s
        · next hstaged => exact armEntry s _ _ (by simpa using hheld) (by simpa using hstaged)

theorem arriveCommand (s : State) (index : Byte) : Evolves s (Machine.arriveCommand index s).state := by
  unfold Machine.arriveCommand
  split
  · exact .refl s
  · split
    · exact .refl s
    · next harmed =>
      split
      · exact .refl s
      · next hcondition =>
        split
        · exact .refl s
        · next hwaits =>
          rw [Decidable.not_not] at harmed hcondition
          exact arrives s _ harmed (by simpa using hwaits) (by simp [hcondition])

theorem cancelCommand (s : State) (index : Byte) : Evolves s (Machine.cancelCommand index s).state := by
  unfold Machine.cancelCommand
  split
  · exact .refl s
  · next i _ =>
    have hclosed (hs : (s.entry i).state ≠ .free) :
        Evolves s (s.tableReaction fun s => s.closeEntry i .abandoned (some .cancelled)) :=
      .react _ (.close s i _ _ hs)
    split
    · exact .refl s
    · exact .refl s
    · next hheld => exact .free s i (by simp [hheld])
    · next harmed =>
      split
      · exact .refl s
      · exact hclosed (by simp [harmed])
    · next hcomplete =>
      split
      · exact .refl s
      · exact hclosed (by simp [hcomplete])

theorem stageCommand (s : State) (channel index : Byte) (set : List Byte) :
    Evolves s (Machine.stageCommand channel index set s).state := by
  unfold Machine.stageCommand
  split
  · split
    · exact .refl s
    · next hset =>
      split
      case h_1 => exact .refl s
      case h_2 => exact .refl s
      case h_3 => exact .refl s
      case h_4 => exact .refl s
      case h_5 hheld =>
        split
        · exact .refl s
        · next hmask =>
          split
          · exact .refl s
          · next hroom =>
            refine .stage s _ _ _ hheld (by simpa using hmask) (legalSet_of_decode hset) ?_
            rw [Decidable.not_and_iff_not_or_not, Nat.not_le, Bool.not_eq_false] at hroom
            exact hroom
  · exact .refl s

theorem unstageCommand (s : State) (channel index : Byte) :
    Evolves s (Machine.unstageCommand channel index s).state := by
  unfold Machine.unstageCommand
  split
  · split
    · exact .refl s
    · split
      · exact .refl s
      · next hpending => exact .unstage s _ _ (by simpa using hpending)
  · exact .refl s

/-- Every command of the port, whatever its argument bytes. -/
theorem runCommand (s : State) (c : PortCommand) (args : List Byte) : Evolves s (Machine.runCommand c args s).state := by
  unfold Machine.runCommand
  split
  case h_1 => exact configureCommand s _
  case h_2 => exact .portReset s
  case h_3 => exact .refl s
  case h_4 => exact .refl s
  case h_5 => exact joinCommand s
  case h_6 => exact leaveCommand s
  case h_7 => exact loadCommand s _ _
  case h_8 => exact armCommand s _
  case h_9 => exact arriveCommand s _
  case h_10 => exact cancelCommand s _
  case h_11 => exact (popCommand_state s).symm ▸ .refl s
  case h_12 => exact (readEntryCommand_state s _).symm ▸ .refl s
  case h_13 => exact stageCommand s _ _ _
  case h_14 => exact unstageCommand s _ _
  case h_15 => exact (readChannelCommand_state s _).symm ▸ .refl s
  case h_16 => exact latches s _
  case h_17 => exact .refl s

/-! ### The transaction -/

/-- A command event: the owning block acts, and the port takes the reply (R180). -/
theorem commandEvent (s : State) (c : PortCommand) (args : List Byte) :
    Evolves s ((s.handCommand (Machine.runCommand c args)).finish c args) :=
  ((port s _).trans (runCommand _ c args)).trans (port _ _)

theorem commandReceived (s : State) (b : Byte) : Evolves s (s.commandReceived b) := by
  unfold State.commandReceived
  split
  · exact port s _
  · exact .ite (fun _ => commandEvent s _ _) fun _ => port s _

theorem argumentReceived (s : State) (b : Byte) : Evolves s (s.argumentReceived b) := by
  refine .ite (fun _ => port s _) fun _ => ?_
  split
  · exact .refl s
  · exact commandEvent s _ _

theorem clockPort (s : State) (pdi : Bool) : Evolves s (s.clockPort pdi) := by
  unfold State.clockPort
  split
  case h_1 => exact .refl s
  case h_2 => exact .refl s
  case h_3 => exact .ite (fun _ => port s _) fun _ => commandReceived s _
  case h_4 => exact .ite (fun _ => port s _) fun _ => argumentReceived s _
  case h_5 => exact .ite (fun _ => port s _) fun _ => port s _
  case h_6 => exact .ite (fun _ => port s _) fun _ => port s _
  case h_7 => exact .refl s

theorem abortPort (s : State) : Evolves s s.abortPort := (latches s _).trans (raise _ _)

theorem commitPop (s : State) : Evolves s s.commitPop := by
  unfold State.commitPop
  split
  · exact .refl s
  · next i rest h => exact .pop s i rest h

theorem commitPending (s : State) : Evolves s s.commitPending := by
  unfold State.commitPending
  split
  · exact .refl s
  · exact commitPop s
  · exact latches s _
  · exact counters s _

theorem endTransaction (s : State) : Evolves s s.endTransaction := by
  refine .trans ?_ (port _ Port.idle)
  split
  case h_1 => exact .refl s
  case h_2 => exact .refl s
  case h_3 => exact .ite (fun _ => .refl s) fun _ => abortPort s
  case h_4 => exact abortPort s
  case h_5 => exact .ite (fun _ => .refl s) fun _ => abortPort s
  case h_6 => exact .ite (fun _ => .refl s) fun _ => abortPort s
  case h_7 => exact commitPending s

/-! ### Every command, and every step -/

theorem whenRunning {act : State → State} (ht : s.whenRunning act = .next t) (hact : Evolves s (act s)) :
    Evolves s t := by
  obtain rfl := Host.Outcome.next.inj ht
  exact .ite (fun _ => .refl s) fun _ => hact

/-- A row of a port command does what the command does to the station behind the port (R180). -/
theorem commandRow {c : PortCommand} {args : List Byte} (run : State → Reply)
    (ht : s.commandRow c args run = .next t) (hrun : ∀ u : State, Evolves u (run u).state) : Evolves s t :=
  whenRunning ht (.ite (fun _ => ((port s _).trans (hrun _)).trans (port _ _)) fun _ => .refl s)

theorem exec (c : Instr) (ht : Machine.exec c s = .next t) : Evolves s t := by
  unfold Machine.exec at ht
  cases c with
  | resetnLow =>
    obtain rfl := Host.Outcome.next.inj ht
    exact .pullReset s
  | resetnRelease straps pcsLow =>
    obtain rfl := Host.Outcome.next.inj ht
    exact .releaseReset s straps pcsLow
  | slotOpens order => exact whenRunning ht (openSlot s order)
  | ownSlotOpens =>
    refine whenRunning ht (.ite (fun hown => .trans ?_ (takeOwnOpening _)) fun _ => .refl s)
    exact .ite (fun _ => .refl s) fun _ => reachOwnSlot s hown
  | sendOffset =>
    refine whenRunning ht (.ite (fun hown => .trans ?_ (sendFrame _)) fun _ => .refl s)
    simp only [RoundTimer.hasOwnSlot, decide_eq_true_eq] at hown
    exact time s _ (hslot := fun h => .inr (h.2.2.2.2.2.1 ▸ hown))
  | ownFrameEnd heard => exact whenRunning ht (endOwnFrame s heard)
  | frameEnd rx noticeFirst => exact whenRunning ht (receptionEnds s rx noticeFirst)
  | lineActivityEnd rx => exact whenRunning ht (.ite (fun _ => receptionEnds s rx false) fun _ => .refl s)
  | listenTimerExpiry => exact whenRunning ht (.ite (expireListen s) fun _ => .refl s)
  | roundBoundary order => exact whenRunning ht (takeBoundary s order)
  | triggerEdge input high => exact whenRunning ht (sampleTrigger s input high)
  | phaseWaitEnd channel => exact whenRunning ht (endPhaseWait s channel)
  | highToLowChange channel => exact whenRunning ht (fall s channel)
  | periodEnd channel => exact whenRunning ht (endPeriod s channel)
  | markerPulseEnd k => exact whenRunning ht (marker s k _ fun _ => ⟨by decide, fun _ => rfl⟩)
  | transactionStart => exact whenRunning ht (.ite (fun _ => port s _) fun _ => .refl s)
  | badCommand byte => exact whenRunning ht (.ite (fun _ => port s _) fun _ => .refl s)
  | configure args => exact commandRow _ ht fun u => configureCommand u args
  | reset => exact commandRow _ ht fun u => .portReset u
  | readStatus => exact commandRow _ ht fun u => .refl u
  | readCounters => exact commandRow _ ht fun u => .refl u
  | join => exact commandRow _ ht joinCommand
  | leave => exact commandRow _ ht leaveCommand
  | load index record => exact commandRow _ ht fun u => loadCommand u index record
  | arm index => exact commandRow _ ht fun u => armCommand u index
  | arrive index => exact commandRow _ ht fun u => arriveCommand u index
  | cancel index => exact commandRow _ ht fun u => cancelCommand u index
  | pop => exact commandRow _ ht fun u => (popCommand_state u).symm ▸ .refl u
  | readEntry index => exact commandRow _ ht fun u => (readEntryCommand_state u index).symm ▸ .refl u
  | stage channel index set => exact commandRow _ ht fun u => stageCommand u channel index set
  | unstage channel index => exact commandRow _ ht fun u => unstageCommand u channel index
  | readChannel channel => exact commandRow _ ht fun u => (readChannelCommand_state u channel).symm ▸ .refl u
  | takeEvents => exact commandRow _ ht fun u => latches u _
  | transactionEnd => exact whenRunning ht (endTransaction s)
  | pckRisingEdge pdi => exact whenRunning ht (clockPort s pdi)
  | triggerSample samples => exact whenRunning ht (foldl (fun s p => sampleTrigger s p.1 p.2) s samples)

/-- A step is a command, or a beat, behind a change of the model's own two fields (the row's cut, log entries 1 and 7). -/
theorem step (ht : Machine.step s = .next t) :
    ∃ (choices : Nat) (pending : List Instr), Evolves { s with choices := choices, pending := pending } t := by
  unfold Machine.step at ht
  split at ht
  · unfold Machine.idle at ht
    split at ht
    · obtain rfl := Host.Outcome.next.inj ht
      exact ⟨s.choices, s.pending, .refl s⟩
    · split at ht
      · obtain rfl := Host.Outcome.next.inj ht
        exact ⟨s.choices, s.pending, passBeat s⟩
      · exact ⟨s.choices + 1, s.pending, exec _ ht⟩
  · next c rest _ => exact ⟨s.choices, rest, exec c ht⟩

end Evolves

/-- What the changes keep, and what does not speak of the model's own two fields, every step keeps. -/
theorem keptByStep_of_evolves {inv : State → Prop}
    (hown : ∀ (s : State) (choices : Nat) (pending : List Instr), inv s →
      inv { s with choices := choices, pending := pending })
    (hkeeps : ∀ s t : State, Evolves s t → inv s → inv t) : KeptByStep inv := by
  intro s t hs ht
  obtain ⟨choices, pending, h⟩ := Evolves.step ht
  exact hkeeps _ t h (hown s choices pending hs)

end Sys2Proof.Machine
end

section
/-!
PROOFS of the invariants of the rendezvous table, R92, R82, R28 with R77, and R85 with R156: each kind of change that a
step is made of (`Evolves`) keeps them.
-/

namespace Sys2Proof.Machine

-- One lemma after another: side by side, the evaluations of `decide` would each hold a thread.
set_option Elab.async false

variable {s t u : State} {firing : List EntryIndex}

/-! ### States that agree on a table -/

/-- What agrees on the entries agrees on each. -/
theorem State.entry_congr (he : t.entries = s.entries) (i : EntryIndex) : t.entry i = s.entry i := by
  simp only [State.entry, he]

theorem State.channel_congr (hc : t.channels = s.channels) (k : ChannelIndex) : t.channel k = s.channel k := by
  simp only [State.channel, hc]

/-! ### A change of the line controller, in its parts -/

/-- The line controller's record has changed, the guarded channels follow, and STATE_CHANGE is raised (R58, R59). -/
def State.turned (s : State) (target : LineState) : State :=
  ((s.setLine (s.changedLine target)).settleChannels).raise .stateChange

/-- The blocks that it touches. -/
abbrev turning : List Block := [.line, .channels, .latches]

theorem State.turned_keeps (s : State) (target : LineState) : Keeps turning s (s.turned target) := by
  unfold State.turned
  exact (((setLine_keeps s (s.changedLine target)).mono turning).trans ((settleChannels_keeps _).mono turning)).trans
    ((raise_keeps _ .stateChange).mono turning)

theorem State.turned_line (s : State) (target : LineState) : (s.turned target).line = s.changedLine target :=
  settleChannels_keeps (s.setLine (s.changedLine target)) .line (by decide)

theorem State.turned_channel (s : State) (target : LineState) (k : ChannelIndex) :
    (s.turned target).channel k = (s.channel k).settle (decide (target = .active)) := by
  have hraised : (s.turned target).channels = ((s.setLine (s.changedLine target)).settleChannels).channels := rfl
  rw [State.channel_congr hraised, State.settleChannels_channel]
  rfl

/-- Entry to LISTEN or OFFLINE abandons what is pending, clears the peer table and empties the records (R56, R57). -/
theorem State.enter_idle (s : State) {target : LineState} (ht : target = .listen ∨ target = .offline) :
    s.enter target =
      (((s.turned target).abandonPending (if target = .listen then .resync else .left)).setPeers
        PeerTable.cleared).clearRecords := by
  rcases ht with rfl | rfl
  · simp only [State.enter, State.turned, if_true]
  · simp only [State.enter, State.turned, if_true, reduceCtorEq, if_false]

/-- Entry to any other state changes nothing besides. -/
theorem State.enter_other (s : State) {target : LineState} (hlisten : target ≠ .listen) (hoffline : target ≠ .offline) :
    s.enter target = s.turned target := by
  rw [State.enter, if_neg hlisten, if_neg hoffline, State.turned]

/-- What every part of a change of the line controller keeps, the change keeps. -/
theorem State.enter_ind (P : State → Prop) (target : LineState) (hturned : P (s.turned target))
    (habandoned : ∀ u r, P u → P (u.abandonPending r)) (hpeers : ∀ u p, P u → P (u.setPeers p))
    (hrecords : ∀ u, P u → P u.clearRecords) : P (s.enter target) := by
  by_cases ht : target = .listen ∨ target = .offline
  · rw [State.enter_idle s ht]
    exact hrecords _ (hpeers _ _ (habandoned _ _ hturned))
  · rw [not_or] at ht
    rw [State.enter_other s ht.1 ht.2]
    exact hturned

/-- The start of tracking touches the peer table alone (R63). -/
theorem State.startTracking_ind (P : State → Prop) (r : Round) (hs : P s) (hpeers : ∀ p, P (s.setPeers p)) :
    P (s.startTracking r) := by
  unfold State.startTracking
  split
  · exact hs
  · exact hpeers _

/-! ### Blank tables -/

/-- In a blank table every entry is blank. -/
theorem State.entry_of_blank (he : s.entries = Vector.replicate 16 Entry.blank) (i : EntryIndex) :
    s.entry i = Entry.blank := by
  simp [State.entry, he]

/-! ### R92: the completion queue -/

namespace State.CompletionsMatch

theorem of_eq (h : s.CompletionsMatch) (hc : t.completions = s.completions) (he : t.entries = s.entries) :
    t.CompletionsMatch := by
  simpa only [State.CompletionsMatch, State.entry_congr he, hc] using h

theorem of_blank (hc : t.completions = []) (he : t.entries = Vector.replicate 16 Entry.blank) : t.CompletionsMatch := by
  simp [State.CompletionsMatch, hc, State.entry_of_blank he, Entry.blank]

/-- A reaction appends what it has closed, once, behind what was DONE before it and stays so (R93). -/
theorem appendClosed (h : s.CompletionsMatch) (w : TableWork firing s t) : (State.appendClosed s t).CompletionsMatch := by
  have hc : t.completions = s.completions := w.keeps .completions (by decide)
  obtain ⟨hnodup, hmem⟩ := h
  refine ⟨?_, fun i => ?_⟩
  · rw [State.appendClosed, State.setCompletions_completions, hc]
    refine List.nodup_append.mpr ⟨hnodup, List.Pairwise.filter _ allSixteen_nodup, fun i hi j hj hij => ?_⟩
    exact ((State.mem_newlyDone s t j).mp hj).1 ((hmem j).mp (hij ▸ hi))
  · have hdone := (w.entryKept i).done
    have he : (State.appendClosed s t).entry i = t.entry i := rfl
    rw [he, State.appendClosed, State.setCompletions_completions, hc, List.mem_append, State.mem_newlyDone, hmem]
    grind

theorem abandonPending (h : s.CompletionsMatch) (r : Reason) : (s.abandonPending r).CompletionsMatch :=
  h.appendClosed (.abandonPending s r)

theorem enter (h : s.CompletionsMatch) (target : LineState) : (s.enter target).CompletionsMatch :=
  State.enter_ind State.CompletionsMatch target
    (h.of_eq (State.turned_keeps s target .completions (by decide)) (State.turned_keeps s target .entries (by decide)))
    (fun _ r hu => hu.abandonPending r) (fun _ _ hu => hu.of_eq rfl rfl) fun _ hu => hu.of_eq rfl rfl

/-- An entry leaves the queue as it leaves DONE. -/
theorem freeEntry {rest : List EntryIndex} {i : EntryIndex} (hnodup : rest.Nodup)
    (hmem : ∀ j, j ∈ rest ↔ (s.entry j).state = .done ∧ j ≠ i) (hc : s.completions = rest) :
    (s.freeEntry i).CompletionsMatch := by
  have hfreed : (s.freeEntry i).completions = rest := (freeEntry_keeps s i .completions (by decide)).trans hc
  refine ⟨hfreed ▸ hnodup, fun j => ?_⟩
  rw [hfreed, hmem, State.freeEntry_entry]
  split
  · next hj => simp [hj, Entry.blank]
  · next hj => simp [hj]

end State.CompletionsMatch

theorem Evolves.completionsMatch (h : Evolves s t) : s.CompletionsMatch → t.CompletionsMatch := by
  induction h with
  | refl s => exact id
  | trans _ _ ih ih' => exact fun hs => ih' (ih hs)
  | aside h => exact fun hs => hs.of_eq (h .completions (by decide)) (h .entries (by decide))
  | timer s x => exact fun hs => hs.of_eq rfl rfl
  | frames s f => exact fun hs => hs.of_eq rfl rfl
  | line s l => exact fun hs => hs.of_eq rfl rfl
  | lock s => exact fun hs => hs.of_eq rfl rfl
  | enter s target => exact fun hs => hs.enter target
  | enterTracking s target r =>
    exact fun hs => State.startTracking_ind State.CompletionsMatch r (hs.enter target) fun _ => (hs.enter target).of_eq rfl rfl
  | configure s c => exact fun hs => hs.of_eq rfl rfl
  | portReset s => exact fun _ => .of_blank rfl rfl
  | pullReset s => exact fun _ => .of_blank rfl rfl
  | releaseReset s => exact fun _ => .of_blank rfl rfl
  | peer s k p => exact fun hs => hs.of_eq rfl rfl
  | startReached s => exact fun hs => hs.of_eq rfl rfl
  | channel s k c => exact fun hs => hs.of_eq rfl rfl
  | stage s k i set => exact fun hs => hs.of_eq rfl rfl
  | unstage s k i => exact fun hs => hs.of_eq rfl rfl
  | marker s k m => exact fun hs => hs.of_eq rfl rfl
  | load s i r hfree =>
    rintro ⟨hnodup, hmem⟩
    refine ⟨hnodup, fun j => ?_⟩
    rw [State.entry_setEntry]
    split
    · next hj =>
      have hnot : i ∉ s.completions := fun hi => by have := (hmem i).mp hi; simp [hfree] at this
      exact ⟨fun hi => absurd (hj ▸ hi) hnot, fun h => by simp at h⟩
    · exact hmem j
  | free s i hdone =>
    rintro ⟨hnodup, hmem⟩
    refine .freeEntry hnodup (fun j => ?_) rfl
    rw [hmem, iff_self_and]
    rintro hj rfl
    exact hdone hj
  | pop s i rest hhead =>
    rintro ⟨hnodup, hmem⟩
    rw [hhead] at hnodup
    obtain ⟨hi, hrest⟩ := List.nodup_cons.mp hnodup
    refine .freeEntry hrest (fun j => ?_) rfl
    have hj : j = i ∨ j ∈ rest ↔ (s.entry j).state = .done := by rw [← hmem, hhead, List.mem_cons]
    have he : (s.setCompletions rest).entry j = s.entry j := rfl
    rw [he, ← hj]
    constructor
    · exact fun h => ⟨.inr h, fun hji => hi (hji ▸ h)⟩
    · exact fun ⟨h, hji⟩ => h.resolve_left hji
  | reaction w _ => exact fun hs => hs.appendClosed w
  | @work s t w hdone =>
    rintro ⟨hnodup, hmem⟩
    have hc : t.completions = s.completions := w.keeps .completions (by decide)
    exact ⟨hc ▸ hnodup, fun i => by rw [hc, hmem]; exact ⟨(w.entryKept i).done, hdone i⟩⟩

/-- Settles O53: each kind of change keeps the queue equal to the DONE entries. -/
theorem stepKeepsCompletions : Obligations.StepKeepsCompletions :=
  keptByStep_of_evolves (fun _ _ _ hs => hs) fun _ _ h => h.completionsMatch

/-! ### R82: number and epoch -/

/-- The invariant of R82 as a structure: the model's `NamesUnique` is an abbreviation of a quantified statement, which
elaboration would open at every use. -/
structure State.NamesFit (s : State) : Prop where
  unique : s.NamesUnique

namespace State.NamesFit

/-- No entry comes out of FREE, and the others keep their records. -/
theorem of_records (h : s.NamesFit)
    (he : ∀ i, (t.entry i).state ≠ .free → (s.entry i).state ≠ .free ∧ (t.entry i).record = (s.entry i).record) :
    t.NamesFit := by
  refine ⟨fun i j hij hi hj hnumber => ?_⟩
  obtain ⟨hi, hri⟩ := he i hi
  obtain ⟨hj, hrj⟩ := he j hj
  rw [hri, hrj] at hnumber ⊢
  exact h.unique i j hij hi hj hnumber

theorem of_eq (h : s.NamesFit) (he : t.entries = s.entries) : t.NamesFit :=
  h.of_records fun i hi => by rw [State.entry_congr he] at hi ⊢; exact ⟨hi, rfl⟩

theorem of_blank (he : t.entries = Vector.replicate 16 Entry.blank) : t.NamesFit := by
  refine ⟨fun i j _ hi => ?_⟩
  simp [State.entry_of_blank he, Entry.blank] at hi

theorem of_work (h : s.NamesFit) (w : TableWork firing s t) : t.NamesFit :=
  h.of_records fun i hi => ⟨mt (w.entryKept i).free.mpr hi, (w.entryKept i).record⟩

theorem appendClosed (h : s.NamesFit) (w : TableWork firing s t) : (State.appendClosed s t).NamesFit :=
  (h.of_work w).of_eq rfl

theorem enter (h : s.NamesFit) (target : LineState) : (s.enter target).NamesFit :=
  have hturned : (s.turned target).NamesFit := h.of_eq (State.turned_keeps s target .entries (by decide))
  State.enter_ind State.NamesFit target hturned
    (fun u r hu => hu.appendClosed (.abandonPending u r)) (fun _ _ hu => hu.of_eq rfl) fun _ hu => hu.of_eq rfl

theorem freeEntry (h : s.NamesFit) (i : EntryIndex) : (s.freeEntry i).NamesFit := by
  refine h.of_records fun j hj => ?_
  rw [State.freeEntry_entry] at hj ⊢
  split at hj
  · simp [Entry.blank] at hj
  · next hji => rw [if_neg hji]; exact ⟨hj, rfl⟩

/-- A loaded record's number and epoch are held by no other entry (R81). -/
theorem load (h : s.NamesFit) (i : EntryIndex) (r : LoadedRecord) (hname : s.holdsName i r = false) :
    (s.setEntry i { Entry.blank with state := .held, record := r }).NamesFit := by
  have hother (j : EntryIndex) (hji : j ≠ i) (hj : (s.entry j).state ≠ .free)
      (hnumber : (s.entry j).record.number = r.number) : (s.entry j).record.epoch ≠ r.epoch := fun hepoch => by
    simp only [State.holdsName, List.any_eq_false, decide_eq_true_eq, mem_allSixteen, forall_const] at hname
    exact hname j ⟨hji, hj, hnumber, hepoch⟩
  refine ⟨fun j k hjk hj hk hnumber => ?_⟩
  rw [State.entry_setEntry] at hj hk hnumber ⊢
  rw [State.entry_setEntry] at hnumber ⊢
  by_cases hji : j = i
  · have hki : k ≠ i := fun hki => hjk (hji.trans hki.symm)
    rw [if_pos hji, if_neg hki] at hnumber ⊢
    rw [if_neg hki] at hk
    exact (hother k hki hk hnumber.symm).symm
  · rw [if_neg hji] at hj hnumber ⊢
    by_cases hki : k = i
    · rw [if_pos hki] at hnumber ⊢
      exact hother j hji hj hnumber
    · rw [if_neg hki] at hk hnumber ⊢
      exact h.unique j k hjk hj hk hnumber

end State.NamesFit

theorem Evolves.namesFit (h : Evolves s t) : s.NamesFit → t.NamesFit := by
  induction h with
  | refl s => exact id
  | trans _ _ ih ih' => exact fun hs => ih' (ih hs)
  | aside h => exact fun hs => hs.of_eq (h .entries (by decide))
  | timer s x => exact fun hs => hs.of_eq rfl
  | frames s f => exact fun hs => hs.of_eq rfl
  | line s l => exact fun hs => hs.of_eq rfl
  | lock s => exact fun hs => hs.of_eq rfl
  | enter s target => exact fun hs => hs.enter target
  | enterTracking s target r =>
    exact fun hs => State.startTracking_ind State.NamesFit r (hs.enter target) fun _ => (hs.enter target).of_eq rfl
  | configure s c => exact fun hs => hs.of_eq rfl
  | portReset s => exact fun _ => .of_blank rfl
  | pullReset s => exact fun _ => .of_blank rfl
  | releaseReset s => exact fun _ => .of_blank rfl
  | peer s k p => exact fun hs => hs.of_eq rfl
  | startReached s => exact fun hs => hs.of_eq rfl
  | channel s k c => exact fun hs => hs.of_eq rfl
  | stage s k i set => exact fun hs => hs.of_eq rfl
  | unstage s k i => exact fun hs => hs.of_eq rfl
  | marker s k m => exact fun hs => hs.of_eq rfl
  | load s i r _ hname => exact fun hs => hs.load i r hname
  | free s i => exact fun hs => hs.freeEntry i
  | pop s i rest =>
    intro hs
    have hqueued : (s.setCompletions rest).NamesFit := hs.of_eq rfl
    exact hqueued.freeEntry i
  | reaction w _ => exact fun hs => hs.appendClosed w
  | work w => exact fun hs => hs.of_work w

/-- Settles O54: an entry comes out of FREE by LOAD alone, which has tested its number and epoch. -/
theorem stepKeepsNamesUnique : Obligations.StepKeepsNamesUnique :=
  keptByStep_of_evolves (fun _ _ _ hs => hs) fun _ _ h hs => (h.namesFit ⟨hs⟩).unique

end Sys2Proof.Machine
end

section
/-!
PROOF of the invariants of the announce queue (R28, with R77) and of the staged queues (R85, R156): each kind of change
that a step is made of (`Evolves`) keeps them.
-/

namespace Sys2Proof.Machine

-- One lemma after another: side by side, the evaluations of `decide` would each hold a thread.
set_option Elab.async false

variable {s t u : State} {firing : List EntryIndex}

/-! ### R28: the announce queue -/

/-- The index belongs into the announce queue (R28). -/
def State.Announced (s : State) (i : EntryIndex) : Prop :=
  (s.entry i).pending = true ∧ s.participates (s.entry i) = true ∧ (s.entry i).arrived = true

/-- The invariants of R28 and R77 as a structure. -/
structure State.AnnounceFits (s : State) : Prop where
  conditions : s.ConditionsFit
  nodup : s.frames.announce.all.Nodup
  member : ∀ i, i ∈ s.frames.announce.all ↔ s.Announced i
  named : ∀ f, s.frames.assembled = some f → f.named.Nodup

theorem State.announceFits_iff : s.AnnounceFits ↔ s.ConditionsFit ∧ s.AnnounceMatches :=
  ⟨fun h => ⟨h.conditions, h.nodup, h.member, h.named⟩, fun ⟨hc, hn, hm, hf⟩ => ⟨hc, hn, hm, hf⟩⟩

/-- What the invariant asks of an entry is the same before and behind a change. -/
structure SameToAnnounce (before after : Entry) : Prop where
  record : after.record = before.record
  free : after.state = .free ↔ before.state = .free
  pending : after.pending = before.pending
  arrived : after.arrived = before.arrived

theorem SameToAnnounce.of_eq {e e' : Entry} (h : e' = e) : SameToAnnounce e e' := h ▸ ⟨rfl, Iff.rfl, rfl, rfl⟩

theorem State.participates_congr (hstation : t.timer.station = s.timer.station) {e e' : Entry}
    (hrecord : e'.record = e.record) : t.participates e' = s.participates e := by
  rw [State.participates, State.participates, hstation, hrecord]

namespace State.AnnounceFits

/-- The queue keeps its members, and the entries what the invariant asks of them. -/
theorem of_same (h : s.AnnounceFits) (hstation : t.timer.station = s.timer.station)
    (he : ∀ i, SameToAnnounce (s.entry i) (t.entry i)) (hqueue : t.frames.announce.all.Perm s.frames.announce.all)
    (hnamed : ∀ f, t.frames.assembled = some f → f.named.Nodup) : t.AnnounceFits := by
  have hp (i : EntryIndex) := State.participates_congr hstation (he i).record
  refine ⟨fun i hi => ?_, hqueue.nodup_iff.mpr h.nodup, fun i => ?_, hnamed⟩
  · rw [(he i).record, hp]
    exact h.conditions i (mt (he i).free.mpr hi)
  · rw [hqueue.mem_iff, h.member, State.Announced, State.Announced, (he i).pending, (he i).arrived, hp]

theorem of_eq (h : s.AnnounceFits) (hstation : t.timer.station = s.timer.station) (he : t.entries = s.entries)
    (hf : t.frames = s.frames) : t.AnnounceFits :=
  h.of_same hstation (fun i => .of_eq (State.entry_congr he i)) (by rw [hf]) (by rw [hf]; exact h.named)

theorem of_keeps {l : List Block} (h : s.AnnounceFits) (hk : Keeps l s t) (ht : .timer ∉ l := by decide)
    (he : .entries ∉ l := by decide) (hf : .frames ∉ l := by decide) : t.AnnounceFits := by
  have htimer : t.timer = s.timer := hk .timer ht
  exact h.of_eq (by rw [htimer]) (hk .entries he) (hk .frames hf)

theorem of_blank (he : t.entries = Vector.replicate 16 Entry.blank) (hf : t.frames = FrameLayer.empty) :
    t.AnnounceFits := by
  refine ⟨fun i hi => ?_, ?_, fun i => ?_, fun f h => ?_⟩
  · simp [State.entry_of_blank he, Entry.blank] at hi
  · simp [hf, FrameLayer.empty, AnnounceQueue.all]
  · simp [hf, FrameLayer.empty, AnnounceQueue.all, State.Announced, State.entry_of_blank he, Entry.blank, Entry.pending]
  · simp [hf, FrameLayer.empty] at h

/-- One entry changes, and its place in the queue with it. -/
theorem of_entry (h : s.AnnounceFits) (i : EntryIndex) (hstation : t.timer.station = s.timer.station)
    (hother : ∀ j, j ≠ i → t.entry j = s.entry j)
    (hcondition : (t.entry i).state ≠ .free →
      ((t.entry i).record.condition = .none ↔ t.participates (t.entry i) = false))
    (hnodup : t.frames.announce.all.Nodup)
    (hi : i ∈ t.frames.announce.all ↔ t.Announced i)
    (hrest : ∀ j, j ≠ i → (j ∈ t.frames.announce.all ↔ j ∈ s.frames.announce.all))
    (hnamed : ∀ f, t.frames.assembled = some f → f.named.Nodup) : t.AnnounceFits := by
  refine ⟨fun j hj => ?_, hnodup, fun j => ?_, hnamed⟩
  · by_cases hji : j = i
    · exact hji ▸ hcondition (hji ▸ hj)
    · have hp := State.participates_congr (e := s.entry j) hstation rfl
      rw [hother j hji] at hj ⊢
      rw [hp]
      exact h.conditions j hj
  · by_cases hji : j = i
    · exact hji ▸ hi
    · have hp := State.participates_congr (e := s.entry j) hstation rfl
      rw [hrest j hji, h.member, State.Announced, State.Announced, hother j hji, hp]

/-- An entry that is pending no longer leaves the queue, and the assembled frame with it (R28, R30). -/
theorem of_leaving (h : s.AnnounceFits) (i : EntryIndex) (hstation : t.timer.station = s.timer.station)
    (hother : ∀ j, j ≠ i → t.entry j = s.entry j) (hpending : (t.entry i).pending = false)
    (hcondition : (t.entry i).state ≠ .free →
      ((t.entry i).record.condition = .none ↔ t.participates (t.entry i) = false))
    (hqueue : t.frames.announce.all = s.frames.announce.all.filter fun j => decide (j ≠ i))
    (hnamed : ∀ f, t.frames.assembled = some f → ∃ g, s.frames.assembled = some g ∧ f.named.Sublist g.named) :
    t.AnnounceFits := by
  refine h.of_entry i hstation hother hcondition (hqueue ▸ List.Pairwise.filter _ h.nodup) ?_ (fun j hji => ?_) fun f hf => ?_
  · simp [hqueue, State.Announced, hpending]
  · simp [hqueue, hji]
  · obtain ⟨g, hg, hsub⟩ := hnamed f hf
    exact (h.named g hg).sublist hsub

end State.AnnounceFits

/-! ### What leaves the queue with an entry -/

theorem AnnounceQueue.all_filter (q : AnnounceQueue) (p : EntryIndex → Bool) :
    AnnounceQueue.all { uncarried := q.uncarried.filter p, carried := q.carried.filter p } = q.all.filter p := by
  simp [AnnounceQueue.all]

theorem State.closeEntry_assembled (s : State) (i : EntryIndex) (o : EntryOutcome) (r : Option Reason) :
    (s.closeEntry i o r).frames.assembled =
      s.frames.assembled.map fun f => { f with named := f.named.filter fun j => decide (j ≠ i) } := by
  rw [State.closeEntry, State.discardStaged_frames]
  rfl

theorem State.freeEntry_announce (s : State) (i : EntryIndex) :
    (s.freeEntry i).frames.announce =
      { uncarried := s.frames.announce.uncarried.filter fun j => decide (j ≠ i)
        carried := s.frames.announce.carried.filter fun j => decide (j ≠ i) } := by
  simp only [State.freeEntry, State.setFrames_frames, State.discardStaged_frames]
  rfl

theorem State.freeEntry_assembled (s : State) (i : EntryIndex) :
    (s.freeEntry i).frames.assembled =
      s.frames.assembled.map fun f =>
        { f with
          named := f.named.filter fun j => decide (j ≠ i), carriage := f.carriage.filter fun j => decide (j ≠ i) } := by
  simp only [State.freeEntry, State.setFrames_frames, State.discardStaged_frames]
  simp only [State.leaveAnnounce, State.setEntry, State.setFrames_frames, State.setEntries_frames, Option.map_map]
  rfl

namespace State.AnnounceFits

theorem closeEntry (h : s.AnnounceFits) (i : EntryIndex) (o : EntryOutcome) (r : Option Reason)
    (hfree : (s.entry i).state ≠ .free) : (s.closeEntry i o r).AnnounceFits := by
  have htimer : (s.closeEntry i o r).timer = s.timer := closeEntry_keeps s i o r .timer (by decide)
  have hentry := s.closeEntry_entry i i o r
  rw [if_pos rfl] at hentry
  refine h.of_leaving i (by rw [htimer]) (fun j hj => ?_) ?_ (fun _ => ?_) ?_ fun f hf => ?_
  · rw [State.closeEntry_entry, if_neg hj]
  · simp [hentry, Entry.pending]
  · have hp := State.participates_congr (t := s.closeEntry i o r) (e := s.entry i) (by rw [htimer]) rfl
    rw [State.participates_congr (s := s) (e := s.entry i) (by rw [htimer]) (by rw [hentry]), hentry]
    exact h.conditions i hfree
  · rw [State.closeEntry_announce, AnnounceQueue.all_filter]
  · rw [State.closeEntry_assembled] at hf
    obtain ⟨g, hg, rfl⟩ := Option.map_eq_some_iff.mp hf
    exact ⟨g, hg, List.filter_sublist⟩

theorem freeEntry (h : s.AnnounceFits) (i : EntryIndex) : (s.freeEntry i).AnnounceFits := by
  have htimer : (s.freeEntry i).timer = s.timer := freeEntry_keeps s i .timer (by decide)
  have hentry := s.freeEntry_entry i i
  rw [if_pos rfl] at hentry
  refine h.of_leaving i (by rw [htimer]) (fun j hj => ?_) ?_ (fun hi => ?_) ?_ fun f hf => ?_
  · rw [State.freeEntry_entry, if_neg hj]
  · simp [hentry, Entry.pending, Entry.blank]
  · simp [hentry, Entry.blank] at hi
  · rw [State.freeEntry_announce, AnnounceQueue.all_filter]
  · rw [State.freeEntry_assembled] at hf
    obtain ⟨g, hg, rfl⟩ := Option.map_eq_some_iff.mp hf
    exact ⟨g, hg, List.filter_sublist⟩

/-- The station is a participant of an ARMED entry with a condition (R77), so the arrival puts it into the queue. -/
theorem arriveLocally (h : s.AnnounceFits) (i : EntryIndex) (harmed : (s.entry i).state = .armed)
    (hwaits : (s.entry i).arrived = false) (hcondition : (s.entry i).record.condition ≠ .none) :
    (s.arriveLocally i).AnnounceFits := by
  have hparticipates : s.participates (s.entry i) = true := by
    have hfits := h.conditions i (by simp [harmed])
    simpa using mt hfits.mpr hcondition
  have hnot : i ∉ s.frames.announce.all := fun hi => by
    have hannounced := (h.member i).mp hi
    simp [State.Announced, hwaits] at hannounced
  have hentry := s.arriveLocally_entry i i
  rw [if_pos rfl] at hentry
  have hmem (j : EntryIndex) : j ∈ (s.arriveLocally i).frames.announce.all ↔ j = i ∨ j ∈ s.frames.announce.all := by
    simp only [State.arriveLocally_announce, AnnounceQueue.all, List.mem_append, List.mem_singleton]
    grind
  have hp (e : Entry) : (s.arriveLocally i).participates e = s.participates e := rfl
  refine h.of_entry i rfl (fun j hj => ?_) (fun _ => ?_) ?_ ?_ (fun j hj => ?_) h.named
  · rw [State.arriveLocally_entry, if_neg hj]
  · rw [hp, hentry]
    exact h.conditions i (by simp [harmed])
  · have hperm : (s.arriveLocally i).frames.announce.all.Perm (i :: s.frames.announce.all) := by
      simp only [State.arriveLocally_announce, AnnounceQueue.all, List.append_assoc]
      exact List.perm_middle
    exact hperm.nodup_iff.mpr (List.nodup_cons.mpr ⟨hnot, h.nodup⟩)
  · refine iff_of_true ((hmem i).mpr (.inl rfl)) ⟨?_, ?_, ?_⟩
    · simp [hentry, Entry.pending, harmed]
    · rw [hp, hentry]; exact hparticipates
    · rw [hentry]
  · rw [hmem, or_iff_right hj]

/-- An armed entry waits for its arrival yet (R84). -/
theorem startArmed (h : s.AnnounceFits) (i : EntryIndex) (r : Round) (hheld : (s.entry i).state = .held) :
    (s.startArmed i r).AnnounceFits := by
  have hnot : i ∉ s.frames.announce.all := fun hi => by
    have hannounced := (h.member i).mp hi
    simp [State.Announced, Entry.pending, hheld] at hannounced
  have hp (e : Entry) : (s.startArmed i r).participates e = s.participates e := rfl
  refine h.of_entry i rfl (fun j hj => ?_) (fun _ => ?_) h.nodup ?_ (fun j hj => Iff.rfl) h.named
  · rw [State.startArmed, State.entry_setEntry, if_neg hj]
  · rw [hp, State.startArmed, State.entry_setEntry, if_pos rfl]
    exact h.conditions i (by simp [hheld])
  · refine iff_of_false hnot fun hannounced => ?_
    simp [State.Announced, State.startArmed] at hannounced

theorem of_work (h : s.AnnounceFits) (w : TableWork firing s t) : t.AnnounceFits := by
  induction w with
  | refl s => exact h
  | trans _ _ ih ih' => exact ih' (ih h)
  | aside hk => exact h.of_keeps hk
  | note s i e hrecord harrived hstate =>
    refine h.of_same rfl (fun j => ?_) (.refl _) h.named
    rw [State.entry_setEntry]
    split
    · next hj =>
      subst hj
      rcases hstate with hs | ⟨hs, hs'⟩
      · exact ⟨hrecord, by rw [hs], by rw [Entry.pending, Entry.pending, hs], harrived⟩
      · exact ⟨hrecord, by simp [hs, hs'], by simp [Entry.pending, hs, hs'], harrived⟩
    · exact .of_eq rfl
  | arrive s i harmed hwaits hcondition => exact h.arriveLocally i harmed hwaits hcondition
  | arm s i r hheld => exact h.startArmed i r hheld
  | close s i o r hfree => exact h.closeEntry i o r hfree
  | swap s k => exact h.of_eq rfl rfl rfl
  | mark s k m => exact h.of_eq rfl rfl rfl

theorem appendClosed (h : s.AnnounceFits) (w : TableWork firing s t) : (State.appendClosed s t).AnnounceFits :=
  (h.of_work w).of_eq rfl rfl rfl

theorem enter (h : s.AnnounceFits) (target : LineState) : (s.enter target).AnnounceFits :=
  State.enter_ind State.AnnounceFits target (h.of_keeps (State.turned_keeps s target))
    (fun u r hu => hu.appendClosed (.abandonPending u r)) (fun _ _ hu => hu.of_eq rfl rfl rfl)
    fun u hu => hu.of_same rfl (fun _ => .of_eq rfl) (.refl _) hu.named

/-- A loaded record's condition fits its participants, and a HELD entry is in no queue (R77, R81). -/
theorem load (h : s.AnnounceFits) (i : EntryIndex) (r : LoadedRecord) (hfree : (s.entry i).state = .free)
    (hlegal : legalRecord s.settings.size s.timer.station i r = true) :
    (s.setEntry i { Entry.blank with state := .held, record := r }).AnnounceFits := by
  have hnot : i ∉ s.frames.announce.all := fun hi => by
    have hannounced := (h.member i).mp hi
    simp [State.Announced, Entry.pending, hfree] at hannounced
  simp only [legalRecord, Bool.and_eq_true, beq_iff_eq] at hlegal
  obtain ⟨⟨⟨-, hcondition⟩, -⟩, -⟩ := hlegal
  refine h.of_entry i rfl (fun j hj => ?_) (fun _ => ?_) h.nodup ?_ (fun j hj => Iff.rfl) h.named
  · rw [State.entry_setEntry, if_neg hj]
  · rw [State.entry_setEntry, if_pos rfl]
    simp only [State.participates, State.setEntry, State.setEntries_timer]
    cases hs : hasStation r.participants s.timer.station <;> simpa [hs] using hcondition
  · refine iff_of_false hnot fun hannounced => ?_
    simp [State.Announced, Entry.pending] at hannounced

end State.AnnounceFits

theorem Evolves.announceFits (h : Evolves s t) : s.AnnounceFits → t.AnnounceFits := by
  induction h with
  | refl s => exact id
  | trans _ _ ih ih' => exact fun hs => ih' (ih hs)
  | aside h => exact fun hs => hs.of_keeps h
  | timer s x hstation => exact fun hs => hs.of_eq hstation rfl rfl
  | frames s f hannounce hassembled =>
    intro hs
    have hmatches := (State.announceFits_iff.mp hs).2
    exact hs.of_same rfl (fun _ => .of_eq rfl) (hannounce hmatches) (hassembled hmatches)
  | line s l => exact fun hs => hs.of_eq rfl rfl rfl
  | lock s => exact fun hs => hs.of_eq rfl rfl rfl
  | enter s target => exact fun hs => hs.enter target
  | enterTracking s target r =>
    exact fun hs => State.startTracking_ind State.AnnounceFits r (hs.enter target)
      fun _ => (hs.enter target).of_eq rfl rfl rfl
  | configure s c => exact fun hs => hs.of_same rfl (fun _ => .of_eq rfl) (.refl _) fun f hf => by cases hf
  | portReset s => exact fun _ => .of_blank rfl rfl
  | pullReset s => exact fun _ => .of_blank rfl rfl
  | releaseReset s => exact fun _ => .of_blank rfl rfl
  | peer s k p => exact fun hs => hs.of_eq rfl rfl rfl
  | startReached s => exact fun hs => hs.of_eq rfl rfl rfl
  | channel s k c => exact fun hs => hs.of_eq rfl rfl rfl
  | stage s k i set => exact fun hs => hs.of_eq rfl rfl rfl
  | unstage s k i => exact fun hs => hs.of_eq rfl rfl rfl
  | marker s k m => exact fun hs => hs.of_eq rfl rfl rfl
  | load s i r hfree _ hlegal => exact fun hs => hs.load i r hfree hlegal
  | free s i => exact fun hs => hs.freeEntry i
  | pop s i rest =>
    intro hs
    have hqueued : (s.setCompletions rest).AnnounceFits := hs.of_eq rfl rfl rfl
    exact hqueued.freeEntry i
  | reaction w _ => exact fun hs => hs.appendClosed w
  | work w => exact fun hs => hs.of_work w

/-- Settles O56: an entry joins the queue as it arrives, which it does once, and leaves it as it closes. -/
theorem stepKeepsAnnounceQueue : Obligations.StepKeepsAnnounceQueue :=
  keptByStep_of_evolves (fun _ _ _ hs => hs) fun _ _ h hs =>
    State.announceFits_iff.mp (h.announceFits (State.announceFits_iff.mpr hs))

end Sys2Proof.Machine
end

section
/-!
PROOF of the invariant of the staged queues (R85, R156): each kind of change that a step is made of (`Evolves`) keeps it.
Within the reaction that fires, the pairs of the firing set leave the queues before its entries close, so there the
entries of the firing set are excepted.
-/

namespace Sys2Proof.Machine

-- One lemma after another: side by side, the evaluations of `decide` would each hold a thread.
set_option Elab.async false

variable {s t u : State} {firing : List EntryIndex}

/-! ### Staged pairs -/

theorem Channel.isStaged_iff (c : Channel) (i : EntryIndex) : c.isStaged i = true ↔ ∃ p ∈ c.staged, p.tag = i := by
  simp [Channel.isStaged]

theorem State.fullyStaged_iff (s : State) (i : EntryIndex) :
    s.fullyStaged i = true ↔ ∀ k, hasChannel (s.entry i).record.channels k = true → (s.channel k).isStaged i = true := by
  simp only [State.fullyStaged, List.all_eq_true, mem_allChannels, forall_const, Bool.or_eq_true, Bool.not_eq_true']
  refine forall_congr' fun k => ?_
  cases hasChannel (s.entry i).record.channels k <;> simp

/-- The entry may own a pair of a channel's staged queue (R156). -/
def Entry.MayStage (e : Entry) (k : ChannelIndex) : Prop :=
  e.state ≠ .free ∧ e.state ≠ .done ∧ hasChannel e.record.channels k = true

/-- The invariants of R156 and, outside the firing set, of R85. -/
structure State.StagedFits (firing : List EntryIndex) (s : State) : Prop where
  length : ∀ k, (s.channel k).staged.length ≤ 4
  tags : ∀ k, ((s.channel k).staged.map StagedPair.tag).Nodup
  pairs : ∀ k, ∀ p ∈ (s.channel k).staged, legalSet p.set = true ∧ (s.entry p.tag).MayStage k
  full : ∀ i, (s.entry i).pending = true → i ∉ firing → s.fullyStaged i = true

theorem State.stagedFits_iff : s.StagedFits [] ↔ s.StagedMatch :=
  ⟨fun h => ⟨fun k => ⟨h.length k, h.tags k, h.pairs k⟩, fun i hi => h.full i hi (by simp)⟩,
    fun ⟨hq, hf⟩ => ⟨fun k => (hq k).1, fun k => (hq k).2.1, fun k => (hq k).2.2, fun i hi _ => hf i hi⟩⟩

namespace State.StagedFits

/-- The queues stay or lose pairs, the entries keep their records, and one that is newly pending is fully staged. -/
theorem of_sublist (h : s.StagedFits firing)
    (hq : ∀ k, ((t.channel k).staged).Sublist (s.channel k).staged)
    (hmay : ∀ k, ∀ p ∈ (t.channel k).staged, (s.entry p.tag).MayStage k → (t.entry p.tag).MayStage k)
    (hfull : ∀ i, (t.entry i).pending = true → i ∉ firing → t.fullyStaged i = true) : t.StagedFits firing := by
  refine ⟨fun k => Nat.le_trans (hq k).length_le (h.length k), fun k => (h.tags k).sublist ((hq k).map _), fun k p hp => ?_, hfull⟩
  obtain ⟨hlegal, hstage⟩ := h.pairs k p ((hq k).subset hp)
  exact ⟨hlegal, hmay k p hp hstage⟩

/-- The queues stay, and the entries keep what the invariant asks of them. -/
theorem of_same (h : s.StagedFits firing) (hq : ∀ k, (t.channel k).staged = (s.channel k).staged)
    (hrecord : ∀ i, (t.entry i).record = (s.entry i).record)
    (hmay : ∀ i k, (s.entry i).MayStage k → (t.entry i).MayStage k)
    (hpending : ∀ i, (t.entry i).pending = true → (s.entry i).pending = true ∨ s.fullyStaged i = true) :
    t.StagedFits firing := by
  refine h.of_sublist (fun k => hq k ▸ List.Sublist.refl _) (fun k p _ => hmay p.tag k) fun i hi hnot => ?_
  have hfull : s.fullyStaged i = true := (hpending i hi).elim (fun hp => h.full i hp hnot) id
  rw [State.fullyStaged_iff] at hfull ⊢
  intro k hk
  rw [hrecord] at hk
  simpa only [Channel.isStaged, hq] using hfull k hk

theorem of_eq (h : s.StagedFits firing) (hq : ∀ k, (t.channel k).staged = (s.channel k).staged)
    (he : t.entries = s.entries) : t.StagedFits firing :=
  h.of_same hq (fun i => by rw [State.entry_congr he]) (fun i k hm => State.entry_congr he i ▸ hm)
    fun i hi => .inl (State.entry_congr he i ▸ hi)

theorem of_keeps {l : List Block} (h : s.StagedFits firing) (hk : Keeps l s t) (he : .entries ∉ l := by decide)
    (hc : .channels ∉ l := by decide) : t.StagedFits firing :=
  h.of_eq (fun k => by rw [State.channel_congr (hk .channels hc)]) (hk .entries he)

theorem of_blank (he : t.entries = Vector.replicate 16 Entry.blank)
    (hc : t.channels = Vector.replicate 8 Channel.afterReset) : t.StagedFits firing := by
  have hchannel (k : ChannelIndex) : t.channel k = Channel.afterReset := by simp [State.channel, hc]
  refine ⟨fun k => ?_, fun k => ?_, fun k p hp => ?_, fun i hi => ?_⟩
  · simp [hchannel, Channel.afterReset]
  · simp [hchannel, Channel.afterReset]
  · simp [hchannel, Channel.afterReset] at hp
  · simp [State.entry_of_blank he, Entry.blank, Entry.pending] at hi

/-- Pairs of entries that are not pending are discarded, and those entries change (R90, R91, R158). -/
theorem of_discard (h : s.StagedFits firing) (i : EntryIndex)
    (hq : ∀ k, (t.channel k).staged = (s.channel k).staged ∨
      (t.channel k).staged = (s.channel k).staged.filter fun p => decide (p.tag ≠ i))
    (hother : ∀ j, j ≠ i → t.entry j = s.entry j) (hpending : (t.entry i).pending = false)
    (hi : t.entry i = s.entry i ∨
      ∀ k, (t.channel k).staged = (s.channel k).staged.filter fun p => decide (p.tag ≠ i)) :
    t.StagedFits firing := by
  refine h.of_sublist (fun k => ?_) (fun k p hp => ?_) fun j hj hnot => ?_
  · rcases hq k with hk | hk
    · exact hk ▸ List.Sublist.refl _
    · exact hk ▸ List.filter_sublist
  · by_cases hpi : p.tag = i
    · rcases hi with hi | hi
      · rw [hpi, hi]; exact id
      · rw [hi k] at hp
        simp [hpi] at hp
    · rw [hother _ hpi]; exact id
  · have hji : j ≠ i := fun hji => by simp [hji, hpending] at hj
    rw [hother j hji] at hj
    have hfull := h.full j hj hnot
    rw [State.fullyStaged_iff] at hfull ⊢
    intro k hk
    rw [hother j hji] at hk
    obtain ⟨p, hp, hpj⟩ := ((s.channel k).isStaged_iff j).mp (hfull k hk)
    refine ((t.channel k).isStaged_iff j).mpr ⟨p, ?_, hpj⟩
    rcases hq k with hk | hk <;> rw [hk]
    · exact hp
    · exact List.mem_filter.mpr ⟨hp, by simp [hpj, hji]⟩

theorem closeEntry (h : s.StagedFits firing) (i : EntryIndex) (o : EntryOutcome) (r : Option Reason) :
    (s.closeEntry i o r).StagedFits firing := by
  have hq (k : ChannelIndex) := congrArg Channel.staged (s.closeEntry_channel i o r k)
  refine h.of_discard i (fun k => .inr (hq k)) (fun j hj => ?_) ?_ (.inr hq)
  · rw [State.closeEntry_entry, if_neg hj]
  · simp [State.closeEntry_entry, Entry.pending]

theorem freeEntry (h : s.StagedFits firing) (i : EntryIndex) : (s.freeEntry i).StagedFits firing := by
  have hq (k : ChannelIndex) := congrArg Channel.staged (s.freeEntry_channel i k)
  refine h.of_discard i (fun k => .inr (hq k)) (fun j hj => ?_) ?_ (.inr hq)
  · rw [State.freeEntry_entry, if_neg hj]
  · simp [State.freeEntry_entry, Entry.pending, Entry.blank]

/-- A fully staged HELD entry is armed (R84, R136). -/
theorem startArmed (h : s.StagedFits firing) (i : EntryIndex) (r : Round) (hheld : (s.entry i).state = .held)
    (hstaged : s.fullyStaged i = true) : (s.startArmed i r).StagedFits firing := by
  have hentry (j : EntryIndex) := s.entry_setEntry i j
    { s.entry i with
      state := .armed, armRound := some r, arrived := false, records := Vector.replicate 16 none, recordedLead := none
      channelCount := 0#8 }
  rw [State.startArmed]
  refine h.of_same (fun k => rfl) (fun j => ?_) (fun j k hm => ?_) fun j hj => ?_
  · rw [hentry]; split
    · next hj => rw [hj]
    · rfl
  · rw [hentry]; split
    · next hj => subst hj; exact ⟨by simp, by simp, hm.2.2⟩
    · exact hm
  · rw [hentry] at hj; split at hj
    · next hji => subst hji; exact .inr hstaged
    · exact .inl hj

/-- The channel's queue loses pairs of the firing set alone (R160, R161). -/
theorem swap (h : s.StagedFits firing) (k : ChannelIndex) (named : List EntryIndex) (winner : StagedPair)
    (hnamed : ∀ i ∈ named, i ∈ firing) :
    (s.setChannel k (Channel.start winner.set ((s.channel k).otherPairs named))).StagedFits firing := by
  have hq (j : ChannelIndex) :
      ((s.setChannel k (Channel.start winner.set ((s.channel k).otherPairs named))).channel j).staged =
        if j = k then (s.channel j).otherPairs named else (s.channel j).staged := by
    rw [State.channel_setChannel]
    split
    · next hj =>
      subst hj
      simp only [Channel.settle_staged, Channel.start]
      split <;> try split
      all_goals rfl
    · rfl
  refine h.of_sublist (fun j => ?_) (fun _ _ _ => id) fun i hi hnot => ?_
  · rw [hq]
    split
    · exact List.filter_sublist
    · exact .refl _
  · have hfull := h.full i hi hnot
    rw [State.fullyStaged_iff] at hfull ⊢
    intro j hj
    obtain ⟨p, hp, hpi⟩ := ((s.channel j).isStaged_iff i).mp (hfull j hj)
    refine (Channel.isStaged_iff _ i).mpr ⟨p, ?_, hpi⟩
    rw [hq]
    split
    · refine List.mem_filter.mpr ⟨hp, ?_⟩
      rw [hpi]
      simpa using fun hin => hnot (hnamed i hin)
    · exact hp

theorem of_work (h : s.StagedFits firing) (w : TableWork firing s t) : t.StagedFits firing := by
  induction w with
  | refl s => exact h
  | trans _ _ ih ih' => exact ih' (ih h)
  | aside hk => exact h.of_keeps hk
  | note s i e hrecord _ hstate =>
    have hpending : e.pending = true → (s.entry i).pending = true := by
      rcases hstate with hs | ⟨hs, _⟩
      · simp [Entry.pending, hs]
      · simp [Entry.pending, hs]
    refine h.of_same (fun k => rfl) (fun j => ?_) (fun j k hm => ?_) fun j hj => ?_
    · rw [State.entry_setEntry]; split
      · next hj => rw [hj, hrecord]
      · rfl
    · rw [State.entry_setEntry]; split
      · next hj =>
        subst hj
        obtain ⟨hfree, hdone, hk⟩ := hm
        rcases hstate with hs | ⟨-, hs⟩
        · exact ⟨hs ▸ hfree, hs ▸ hdone, hrecord ▸ hk⟩
        · exact ⟨by simp [hs], by simp [hs], hrecord ▸ hk⟩
      · exact hm
    · rw [State.entry_setEntry] at hj; split at hj
      · next hji => subst hji; exact .inl (hpending hj)
      · exact .inl hj
  | arrive s i =>
    have hentry (j : EntryIndex) := s.arriveLocally_entry i j
    refine h.of_same (fun k => rfl) (fun j => ?_) (fun j k hm => ?_) fun j hj => ?_
    · rw [hentry]; split
      · next hj => rw [hj]
      · rfl
    · rw [hentry]; split
      · next hj => exact hj ▸ hm
      · exact hm
    · rw [hentry] at hj; split at hj
      · next hji => exact .inl (hji ▸ hj)
      · exact .inl hj
  | arm s i r hheld hstaged => exact h.startArmed i r hheld hstaged
  | close s i o r => exact h.closeEntry i o r
  | swap s k named winner hnamed => exact h.swap k named winner hnamed
  | mark s k m => exact h.of_eq (fun k => rfl) rfl

/-- A reaction in which the whole firing set closes (R131). -/
theorem appendClosed (h : s.StagedFits []) (w : TableWork firing s t)
    (hclosed : ∀ i ∈ firing, (t.entry i).state = .done) : (State.appendClosed s t).StagedFits [] := by
  have hexcepted : s.StagedFits firing := ⟨h.length, h.tags, h.pairs, fun i hi _ => h.full i hi (by simp)⟩
  have hworked := hexcepted.of_work w
  have hall : t.StagedFits [] := by
    refine ⟨hworked.length, hworked.tags, hworked.pairs, fun i hi _ => hworked.full i hi fun hin => ?_⟩
    simp [Entry.pending, hclosed i hin] at hi
  exact hall.of_eq (fun _ => rfl) rfl

theorem enter (h : s.StagedFits []) (target : LineState) : (s.enter target).StagedFits [] :=
  State.enter_ind (State.StagedFits []) target
    (h.of_eq (fun k => by rw [State.turned_channel, Channel.settle_staged])
      (State.turned_keeps s target .entries (by decide)))
    (fun u r hu => hu.appendClosed (.abandonPending u r) (by simp)) (fun _ _ hu => hu.of_eq (fun _ => rfl) rfl)
    fun _ hu => hu.of_eq (fun _ => rfl) rfl

/-- No pair is tagged with a FREE entry, so a loaded entry finds none (R81, R156). -/
theorem load (h : s.StagedFits []) (i : EntryIndex) (e : Entry) (hfree : (s.entry i).state = .free)
    (hpending : e.pending = false) : (s.setEntry i e).StagedFits [] := by
  refine h.of_sublist (fun k => .refl _) (fun k p hp hm => ?_) fun j hj _ => ?_
  · have hpi : p.tag ≠ i := fun hpi => hm.1 (hpi ▸ hfree)
    rwa [State.entry_setEntry, if_neg hpi]
  · rw [State.entry_setEntry] at hj
    have hji : j ≠ i := fun hji => by simp [hji, hpending] at hj
    rw [if_neg hji] at hj
    have hfull := h.full j hj (by simp)
    rw [State.fullyStaged_iff] at hfull ⊢
    intro k hk
    rw [State.entry_setEntry, if_neg hji] at hk
    exact hfull k hk

end State.StagedFits

/-! ### STAGE -/

/-- A pair takes its new set in its place, or joins at the tail (R157). -/
theorem Channel.stage_staged (c : Channel) (i : EntryIndex) (set : ChannelSet) :
    (c.stage i set).staged =
      if c.isStaged i = true then c.staged.map fun p => if p.tag = i then { p with set := set } else p
      else c.staged ++ [{ tag := i, set := set }] := by
  unfold Channel.stage
  split <;> rfl

/-- A new set in a pair's place leaves the tags. -/
theorem StagedPair.map_set_tag (l : List StagedPair) (i : EntryIndex) (set : ChannelSet) :
    (l.map fun p => if p.tag = i then { p with set := set } else p).map StagedPair.tag = l.map StagedPair.tag := by
  rw [List.map_map]
  refine List.map_congr_left fun p _ => ?_
  simp only [Function.comp]
  split <;> rfl

theorem Channel.mem_stage {c : Channel} {i : EntryIndex} {set : ChannelSet} {p : StagedPair}
    (hp : p ∈ (c.stage i set).staged) : p ∈ c.staged ∨ p = { tag := i, set := set } := by
  rw [Channel.stage_staged] at hp
  split at hp
  · obtain ⟨q, hq, rfl⟩ := List.mem_map.mp hp
    split
    · next hqi => exact .inr (by rw [← hqi])
    · exact .inl hq
  · simpa using hp

theorem Channel.stage_isStaged (c : Channel) (i j : EntryIndex) (set : ChannelSet) (h : c.isStaged j = true) :
    (c.stage i set).isStaged j = true := by
  obtain ⟨p, hp, hpj⟩ := (c.isStaged_iff j).mp h
  have hmem : j ∈ (c.stage i set).staged.map StagedPair.tag := by
    rw [Channel.stage_staged]
    split
    · rw [StagedPair.map_set_tag]
      exact List.mem_map.mpr ⟨p, hp, hpj⟩
    · exact List.mem_map.mpr ⟨p, List.mem_append_left _ hp, hpj⟩
  exact (Channel.isStaged_iff _ j).mpr (List.mem_map.mp hmem)

theorem State.StagedFits.stage (h : s.StagedFits []) (k : ChannelIndex) (i : EntryIndex) (set : ChannelSet)
    (hheld : (s.entry i).state = .held) (hmask : hasChannel (s.entry i).record.channels k = true)
    (hset : legalSet set = true) (hroom : (s.channel k).isStaged i = true ∨ (s.channel k).staged.length < 4) :
    (s.setChannels (s.channels.set k ((s.channel k).stage i set))).StagedFits [] := by
  have hc (j : ChannelIndex) := s.channel_setChannels k j ((s.channel k).stage i set)
  refine ⟨fun j => ?_, fun j => ?_, fun j p hp => ?_, fun j hj _ => ?_⟩
  · rw [hc]
    split
    · rw [Channel.stage_staged]
      split
      · simpa using h.length k
      · next hnot =>
        rw [List.length_append, List.length_singleton]
        exact hroom.resolve_left hnot
    · exact h.length j
  · rw [hc]
    split
    · rw [Channel.stage_staged]
      split
      · rw [StagedPair.map_set_tag]; exact h.tags k
      · next hnot =>
        rw [List.map_append]
        refine List.nodup_append.mpr ⟨h.tags k, List.pairwise_singleton _ _, fun j hj j' hj' hjj => hnot ?_⟩
        obtain rfl : j = i := hjj.trans (List.mem_singleton.mp hj')
        exact ((s.channel k).isStaged_iff j).mpr (List.mem_map.mp hj)
    · exact h.tags j
  · rw [hc] at hp
    split at hp
    · next hjk =>
      rcases Channel.mem_stage hp with hp | rfl
      · exact hjk ▸ h.pairs k p hp
      · have hmay : (s.entry i).MayStage k := ⟨by simp [hheld], by simp [hheld], hmask⟩
        exact ⟨hset, hjk ▸ hmay⟩
    · exact h.pairs j p hp
  · have hfull := h.full j hj (by simp)
    rw [State.fullyStaged_iff] at hfull ⊢
    intro m hm
    rw [hc]
    split
    · next hmk => exact Channel.stage_isStaged _ i j set (hmk ▸ hfull m hm)
    · exact hfull m hm

theorem Evolves.stagedFits (h : Evolves s t) : s.StagedFits [] → t.StagedFits [] := by
  induction h with
  | refl s => exact id
  | trans _ _ ih ih' => exact fun hs => ih' (ih hs)
  | aside h => exact fun hs => hs.of_keeps h
  | timer s x => exact fun hs => hs.of_eq (fun _ => rfl) rfl
  | frames s f => exact fun hs => hs.of_eq (fun _ => rfl) rfl
  | line s l => exact fun hs => hs.of_eq (fun _ => rfl) rfl
  | lock s => exact fun hs => hs.of_eq (fun _ => rfl) rfl
  | enter s target => exact fun hs => hs.enter target
  | enterTracking s target r =>
    exact fun hs => State.startTracking_ind (State.StagedFits []) r (hs.enter target)
      fun _ => (hs.enter target).of_eq (fun _ => rfl) rfl
  | configure s c => exact fun hs => hs.of_eq (fun _ => rfl) rfl
  | portReset s => exact fun _ => .of_blank rfl rfl
  | pullReset s => exact fun _ => .of_blank rfl rfl
  | releaseReset s => exact fun _ => .of_blank rfl rfl
  | peer s k p => exact fun hs => hs.of_eq (fun _ => rfl) rfl
  | startReached s => exact fun hs => hs.of_eq (fun _ => rfl) rfl
  | channel s k c hstaged =>
    refine fun hs => hs.of_eq (fun j => ?_) rfl
    rw [State.channel_setChannel]
    split
    · next hj => rw [Channel.settle_staged, hstaged, hj]
    · rfl
  | stage s k i set hheld hmask hset hroom => exact fun hs => hs.stage k i set hheld hmask hset hroom
  | unstage s k i hpending =>
    refine fun hs => hs.of_discard i (fun j => ?_) (fun _ _ => rfl) hpending (.inl rfl)
    rw [State.channel_setChannels]
    split
    · next hj => exact .inr (by rw [hj, Channel.discard_staged])
    · exact .inl rfl
  | marker s k m => exact fun hs => hs.of_eq (fun _ => rfl) rfl
  | load s i r hfree => exact fun hs => hs.load i _ hfree (by simp [Entry.pending])
  | free s i => exact fun hs => hs.freeEntry i
  | pop s i rest =>
    intro hs
    have hqueued : (s.setCompletions rest).StagedFits [] := hs.of_eq (fun _ => rfl) rfl
    exact hqueued.freeEntry i
  | reaction w hclosed => exact fun hs => hs.appendClosed w hclosed
  | work w => exact fun hs => hs.of_work w

/-- Settles O57: an entry is armed when it is fully staged, keeps its pairs while it is pending, and closes in the
reaction in which the channels take them. -/
theorem stepKeepsStagedSets : Obligations.StepKeepsStagedSets :=
  keptByStep_of_evolves (fun _ _ _ hs => hs) fun _ _ h hs =>
    State.stagedFits_iff.mp (h.stagedFits (State.stagedFits_iff.mpr hs))

end Sys2Proof.Machine
end

section
/-!
PROOFS of the invariants of the outputs (R148, R163, R170), of the configuration (R2, R9, R38, R185) and of the peer table
(R62, R63, R68, R74): each kind of change that a step is made of (`Evolves`) keeps them.
-/

namespace Sys2Proof.Machine

-- One lemma after another: side by side, the evaluations of `decide` would each hold a thread.
set_option Elab.async false

variable {s t u : State} {firing : List EntryIndex}

/-! ### R148, R163, R170: the outputs -/

/-- A channel fits, and its staged sets are legal. -/
structure Channel.OutputFits (c : Channel) (active : Bool) : Prop where
  run : c.RunFits
  pin : c.PinFits active
  legal : ∀ p ∈ c.staged, legalSet p.set = true

/-- The invariants of the channels and of the markers as a structure. -/
structure State.DrivesFit (s : State) : Prop where
  channel : ∀ k, (s.channel k).OutputFits s.isActive
  marker : ∀ k, (s.marker k).Fits

theorem State.drivesFit_iff : s.DrivesFit ↔ s.OutputsFit :=
  ⟨fun h => ⟨fun k => ⟨(h.channel k).run, (h.channel k).pin, (h.channel k).legal⟩, h.marker⟩,
    fun ⟨hc, hm⟩ => ⟨fun k => ⟨(hc k).1, (hc k).2.1, (hc k).2.2⟩, hm⟩⟩

namespace Channel

/-- The pin of a settled channel follows (R163). -/
theorem settle_pinFits (c : Channel) (a : Bool) : (c.settle a).PinFits a := ⟨rfl, rfl⟩

/-- A settled channel fits if its runtime state does. -/
theorem RunFits.outputFits {c : Channel} (h : c.RunFits) (hl : ∀ p ∈ c.staged, legalSet p.set = true) (a : Bool) :
    (c.settle a).OutputFits a :=
  ⟨h, c.settle_pinFits a, hl⟩

theorem OutputFits.discard {c : Channel} {a : Bool} (h : c.OutputFits a) (i : EntryIndex) :
    (c.discard i).OutputFits a :=
  ⟨h.run, h.pin, fun p hp => h.legal p ((List.mem_filter.mp hp).1)⟩

/-- The run of a legal set begins in a runtime state that fits it (R149). -/
theorem start_runFits (set : ChannelSet) (staged : List StagedPair) (h : legalSet set = true) :
    (Channel.start set staged).RunFits := by
  have hphase : set.phase ≠ 0#16 → 1 ≤ set.phase.toNat ∧ set.phase.toNat ≤ 65535 := fun hne => by
    have := set.phase.isLt
    refine ⟨Nat.one_le_iff_ne_zero.mpr fun h0 => hne (BitVec.eq_of_toNat_eq h0), by omega⟩
  have hcount : set.count.toNat ≤ 65535 := by have := set.count.isLt; omega
  unfold Channel.start
  cases hm : set.mode with
  | off => simpa [Channel.RunFits, hm] using h
  | level => simpa [Channel.RunFits, hm] using h
  | periodic =>
    have hl := h
    simp only [legalSet, hm, Bool.and_eq_true, decide_eq_true_eq] at hl
    by_cases hp : set.phase = 0#16
    · simp [Channel.RunFits, hm, hp, h]; omega
    · simp [Channel.RunFits, hm, hp, h, hphase hp]
  | burst =>
    have hl := h
    simp only [legalSet, hm, Bool.and_eq_true, decide_eq_true_eq] at hl
    by_cases hp : set.phase = 0#16
    · simp [Channel.RunFits, hm, hp, h, hcount]; omega
    · simp [Channel.RunFits, hm, hp, h, hphase hp, hcount]; omega

theorem start_staged (set : ChannelSet) (staged : List StagedPair) : (Channel.start set staged).staged = staged := by
  unfold Channel.start
  cases set.mode with
  | off => rfl
  | level => rfl
  | periodic => dsimp only; split <;> rfl
  | burst => dsimp only; split <;> rfl

end Channel

namespace State.DrivesFit

theorem of_channels (h : s.DrivesFit) (hm : t.markers = s.markers)
    (hc : ∀ k, (s.channel k).OutputFits s.isActive → (t.channel k).OutputFits t.isActive) : t.DrivesFit :=
  ⟨fun k => hc k (h.channel k), fun k => by rw [State.marker, hm]; exact h.marker k⟩

theorem of_eq (h : s.DrivesFit) (hl : t.line.state = s.line.state) (hc : t.channels = s.channels)
    (hm : t.markers = s.markers) : t.DrivesFit :=
  h.of_channels hm fun k hk => by rwa [State.channel_congr hc, State.isActive, hl]

theorem of_keeps {l : List Block} (h : s.DrivesFit) (hk : Keeps l s t) (hl : .line ∉ l := by decide)
    (hc : .channels ∉ l := by decide) (hm : .markers ∉ l := by decide) : t.DrivesFit := by
  have hline : t.line = s.line := hk .line hl
  exact h.of_eq (by rw [hline]) (hk .channels hc) (hk .markers hm)

theorem of_blank (hc : t.channels = Vector.replicate 8 Channel.afterReset)
    (hm : t.markers = Vector.replicate 2 Marker.low) : t.DrivesFit := by
  refine ⟨fun k => ?_, fun k => ?_⟩
  · rw [State.channel, hc, Fin.getElem_fin, Vector.getElem_replicate]
    exact ⟨by decide, by cases t.isActive <;> decide, by simp [Channel.afterReset]⟩
  · rw [State.marker, hm, Fin.getElem_fin, Vector.getElem_replicate]
    exact ⟨by decide, fun _ => rfl⟩

/-- One channel is replaced and settled (R163). -/
theorem setChannel (h : s.DrivesFit) (k : ChannelIndex) (c : Channel) (hrun : c.RunFits)
    (hl : ∀ p ∈ c.staged, legalSet p.set = true) : (s.setChannel k c).DrivesFit := by
  refine h.of_channels rfl fun j hj => ?_
  rw [State.channel_setChannel]
  split
  · exact hrun.outputFits hl _
  · exact hj

/-- One channel's staged queue changes. -/
theorem setStaged (h : s.DrivesFit) (k : ChannelIndex) (c : Channel) (hc : c.OutputFits s.isActive) :
    (s.setChannels (s.channels.set k c)).DrivesFit := by
  refine h.of_channels rfl fun j hj => ?_
  rw [State.channel_setChannels]
  split
  · exact hc
  · exact hj

theorem setMarker (h : s.DrivesFit) (k : MarkerIndex) (m : Marker) (hm : (s.marker k).Fits → m.Fits) :
    (s.setMarker k m).DrivesFit := by
  refine ⟨h.channel, fun j => ?_⟩
  rw [State.marker_setMarker]
  split
  · exact hm (h.marker k)
  · exact h.marker j

/-- Every channel loses a pair, and nothing else of the outputs changes. -/
theorem of_discard (h : s.DrivesFit) (i : EntryIndex) (hk : Keeps closing s t)
    (hc : ∀ k, t.channel k = (s.channel k).discard i) : t.DrivesFit := by
  have hline : t.line = s.line := hk .line (by decide)
  refine h.of_channels (hk .markers (by decide)) fun k hfits => ?_
  rw [hc, State.isActive, hline]
  exact hfits.discard i

theorem closeEntry (h : s.DrivesFit) (i : EntryIndex) (o : EntryOutcome) (r : Option Reason) :
    (s.closeEntry i o r).DrivesFit :=
  h.of_discard i (closeEntry_keeps s i o r) (s.closeEntry_channel i o r)

theorem freeEntry (h : s.DrivesFit) (i : EntryIndex) : (s.freeEntry i).DrivesFit :=
  h.of_discard i (freeEntry_keeps s i) (s.freeEntry_channel i)

theorem of_work (h : s.DrivesFit) (w : TableWork firing s t) : t.DrivesFit := by
  induction w with
  | refl s => exact h
  | trans _ _ ih ih' => exact ih' (ih h)
  | aside hk => exact h.of_keeps hk
  | note s i e => exact h.of_eq rfl rfl rfl
  | arrive s i => exact h.of_eq rfl rfl rfl
  | arm s i r => exact h.of_eq rfl rfl rfl
  | close s i o r => exact h.closeEntry i o r
  | swap s k named winner _ hwinner =>
    have hlegal := (h.channel k).legal
    refine h.setChannel k _ (Channel.start_runFits _ _ (hlegal _ hwinner)) fun p hp => hlegal p ?_
    rw [Channel.start_staged] at hp
    exact (List.mem_filter.mp hp).1
  | mark s k m hm => exact h.setMarker k m hm

theorem appendClosed (h : s.DrivesFit) (w : TableWork firing s t) : (State.appendClosed s t).DrivesFit :=
  (h.of_work w).of_eq rfl rfl rfl

theorem turned (h : s.DrivesFit) (target : LineState) : (s.turned target).DrivesFit := by
  refine h.of_channels (State.turned_keeps s target .markers (by decide)) fun k hk => ?_
  have hactive : (s.turned target).isActive = decide (target = .active) := by
    rw [State.isActive, State.turned_line]
    rfl
  rw [State.turned_channel, hactive]
  exact hk.run.outputFits hk.legal _

theorem enter (h : s.DrivesFit) (target : LineState) : (s.enter target).DrivesFit :=
  State.enter_ind State.DrivesFit target (h.turned target) (fun u r hu => hu.appendClosed (.abandonPending u r))
    (fun _ _ hu => hu.of_eq rfl rfl rfl) fun _ hu => hu.of_eq rfl rfl rfl

end State.DrivesFit

theorem Evolves.drivesFit (h : Evolves s t) : s.DrivesFit → t.DrivesFit := by
  induction h with
  | refl s => exact id
  | trans _ _ ih ih' => exact fun hs => ih' (ih hs)
  | aside h => exact fun hs => hs.of_keeps h
  | timer s x => exact fun hs => hs.of_eq rfl rfl rfl
  | frames s f => exact fun hs => hs.of_eq rfl rfl rfl
  | line s l hstate => exact fun hs => hs.of_eq hstate rfl rfl
  | lock s => exact fun hs => hs.of_eq rfl rfl rfl
  | enter s target => exact fun hs => hs.enter target
  | enterTracking s target r =>
    exact fun hs => State.startTracking_ind State.DrivesFit r (hs.enter target)
      fun _ => (hs.enter target).of_eq rfl rfl rfl
  | configure s c => exact fun hs => hs.of_eq rfl rfl rfl
  | portReset s => exact fun _ => .of_blank rfl rfl
  | pullReset s => exact fun _ => .of_blank rfl rfl
  | releaseReset s => exact fun _ => .of_blank rfl rfl
  | peer s k p => exact fun hs => hs.of_eq rfl rfl rfl
  | startReached s => exact fun hs => hs.of_eq rfl rfl rfl
  | channel s k c hstaged hruns =>
    exact fun hs => hs.setChannel k c (hruns (hs.channel k).run) (hstaged ▸ (hs.channel k).legal)
  | stage s k i set _ _ hset =>
    intro hs
    obtain ⟨hrun, hpin, hlegal⟩ := hs.channel k
    have hstaged : ∀ p ∈ ((s.channel k).stage i set).staged, legalSet p.set = true := fun p hp =>
      (Channel.mem_stage hp).elim (hlegal p) fun h => h ▸ hset
    refine hs.setStaged k _ ?_
    unfold Channel.stage at hstaged ⊢
    split
    · next h => rw [if_pos h] at hstaged; exact ⟨hrun, hpin, hstaged⟩
    · next h => rw [if_neg h] at hstaged; exact ⟨hrun, hpin, hstaged⟩
  | unstage s k i => exact fun hs => hs.setStaged k _ ((hs.channel k).discard i)
  | marker s k m hm => exact fun hs => hs.setMarker k m hm
  | load s i r => exact fun hs => hs.of_eq rfl rfl rfl
  | free s i => exact fun hs => hs.freeEntry i
  | pop s i rest =>
    intro hs
    have hqueued : (s.setCompletions rest).DrivesFit := hs.of_eq rfl rfl rfl
    exact hqueued.freeEntry i
  | reaction w _ => exact fun hs => hs.appendClosed w
  | work w => exact fun hs => hs.of_work w

/-- Settles O58: a channel that changes is settled with the change, and so are all as the line controller changes. -/
theorem stepKeepsOutputs : Obligations.StepKeepsOutputs :=
  keptByStep_of_evolves (fun _ _ _ hs => hs) fun _ _ h hs =>
    State.drivesFit_iff.mp (h.drivesFit (State.drivesFit_iff.mpr hs))

/-! ### The port reset -/

/-- Every trigger input keeps its level, and its last-edge record is absent (R169). -/
theorem State.foldl_setTrigger_portReset (s : State) :
    ([0, 1, 2, 3] : List InputIndex).foldl (fun s k => s.setTrigger k (s.trigger k).portReset) s =
      s.setTriggers (s.triggers.map Trigger.portReset) := by
  refine congrArg s.setTriggers (Vector.ext fun k hk => ?_)
  have hthree : ((3 : InputIndex) : Nat) = 3 := rfl
  have hcases : k = 0 ∨ k = 1 ∨ k = 2 ∨ k = 3 := by omega
  rcases hcases with rfl | rfl | rfl | rfl <;> simp [State.trigger, State.setTrigger, hthree]

/-- Every block but the configuration record and the port stands at its port-reset value; line time is to restart. -/
def State.blocksCleared (s : State) : State :=
  { s with
    frames := FrameLayer.empty, counters := Counters.zero, line := LineController.offline, peers := PeerTable.cleared
    entries := Vector.replicate 16 Entry.blank, completions := [], channels := Vector.replicate 8 Channel.afterReset
    triggers := s.triggers.map Trigger.portReset, markers := Vector.replicate 2 Marker.low, latches := Latches.empty
    locked := false }

/-- What the port reset does, at once (R15, R191). -/
theorem State.portReset_eq (s : State) : s.portReset = s.blocksCleared.restart := by
  change ((((([0, 1, 2, 3] : List InputIndex).foldl (fun (s : State) k => s.setTrigger k (s.trigger k).portReset) _).setMarkers
    _).setLatches _).setLocked _).restart = _
  rw [State.foldl_setTrigger_portReset]
  cases s
  rfl

/-! ### R2, R9, R38, R185: configuration and line time -/

namespace State.ConfigFits

/-- The parts that the invariant speaks of. -/
theorem of_eq (h : s.ConfigFits) (hsettings : t.settings = s.settings) (htimer : t.timer = s.timer)
    (hlocked : t.locked = s.locked) (hline : t.line.state = s.line.state) : t.ConfigFits := by
  simpa only [State.ConfigFits, hsettings, htimer, hlocked, hline] using h

theorem of_keeps {l : List Block} (h : s.ConfigFits) (hk : Keeps l s t) (hs : .settings ∉ l := by decide)
    (ht : .timer ∉ l := by decide) (hl : .locked ∉ l := by decide) (hc : .line ∉ l := by decide) : t.ConfigFits := by
  have hline : t.line = s.line := hk .line hc
  exact h.of_eq (hk .settings hs) (hk .timer ht) (hk .locked hl) (by rw [hline])

/-- A station that leaves OFFLINE is locked, and its number lies below N (R38). -/
theorem enter (h : s.ConfigFits) (target : LineState)
    (hjoined : target = .offline ∨ s.line.state ≠ .offline ∨
      (s.locked = true ∧ s.timer.station.val < s.settings.size)) : (s.enter target).ConfigFits := by
  obtain ⟨h1, h2, h3, h4, h5, h6, h7, h8, h9, hunlocked, hstation⟩ := h
  have hk := enter_keeps s target
  have hsettings : (s.enter target).settings = s.settings := hk .settings (by decide)
  have htimer : (s.enter target).timer = s.timer := hk .timer (by decide)
  have hlocked : (s.enter target).locked = s.locked := hk .locked (by decide)
  have hline : (s.enter target).line.state = target := by rw [State.enter_line]; rfl
  have hmay : target = .offline ∨ (s.locked = true ∧ s.timer.station.val < s.settings.size) := by
    rcases hjoined with ht | hs | hs
    · exact .inl ht
    · exact .inr ⟨by simpa using mt hunlocked hs, hstation hs⟩
    · exact .inr hs
  rw [State.ConfigFits, hsettings, htimer, hlocked, hline]
  refine ⟨h1, h2, h3, h4, h5, h6, h7, h8, h9, fun hl => ?_, fun ht => ?_⟩
  · exact hmay.resolve_right fun hs => by simp [hl] at hs
  · exact (hmay.resolve_left ht).2

end State.ConfigFits

/-- A station that has restarted in OFFLINE fits, with the values of a configuration record in range (R15, R16). -/
theorem State.ConfigFits.of_restarted (hc : t.settings.InRange) (hsize : t.timer.size = t.settings.size)
    (hrate : t.timer.rate = t.settings.rate) (hslot : t.timer.slot = 0) (hcorrection : t.timer.correction = none)
    (hoffline : t.line.state = .offline) : t.ConfigFits := by
  obtain ⟨h1, h2, h3, h4, h5⟩ := hc
  have hpositive : t.timer.slot.val < t.settings.size := by
    rw [hslot]
    exact Nat.lt_of_lt_of_le (by decide) h1
  exact ⟨h1, h2, h3, h4, h5, hsize, hrate, hpositive, fun d hd => by simp [hcorrection] at hd, fun _ => hoffline,
    fun hj => absurd hoffline hj⟩

theorem Settings.default_inRange : Settings.default.InRange := by
  refine ⟨?_, ?_, ?_, ?_, ?_⟩ <;> decide

theorem State.ConfigFits.settings_inRange (h : s.ConfigFits) : s.settings.InRange :=
  ⟨h.1, h.2.1, h.2.2.1, h.2.2.2.1, h.2.2.2.2.1⟩

theorem Evolves.configFits (h : Evolves s t) : s.ConfigFits → t.ConfigFits := by
  induction h with
  | refl s => exact id
  | trans _ _ ih ih' => exact fun hs => ih' (ih hs)
  | aside h => exact fun hs => State.ConfigFits.of_keeps hs h
  | timer s x hstation hsize hrate hslot hcorrection =>
    intro hs
    have hs' := hs
    obtain ⟨h1, h2, h3, h4, h5, h6, h7, -, -, h10, h11⟩ := hs
    exact ⟨h1, h2, h3, h4, h5, hsize.trans h6, hrate.trans h7, hslot hs', hcorrection hs', h10, fun hj => hstation ▸ h11 hj⟩
  | frames s f => exact fun hs => State.ConfigFits.of_eq hs rfl rfl rfl rfl
  | line s l hstate => exact fun hs => State.ConfigFits.of_eq hs rfl rfl rfl hstate
  | lock s =>
    rintro ⟨h1, h2, h3, h4, h5, h6, h7, h8, h9, -, h11⟩
    exact ⟨h1, h2, h3, h4, h5, h6, h7, h8, h9, fun hl => by simp at hl, h11⟩
  | enter s target hjoined => exact fun hs => State.ConfigFits.enter hs target hjoined
  | enterTracking s target r hjoined =>
    intro hs
    have hentered := State.ConfigFits.enter hs target (.inr (.inl hjoined))
    exact State.startTracking_ind State.ConfigFits r hentered fun _ => hentered
  | configure s c hunlocked hc =>
    rintro ⟨-, -, -, -, -, -, -, -, -, hoffline, -⟩
    exact State.ConfigFits.of_restarted hc rfl rfl rfl rfl (hoffline hunlocked)
  | portReset s =>
    intro hs
    rw [State.portReset_eq]
    have hrange : s.settings.InRange := State.ConfigFits.settings_inRange hs
    exact .of_restarted (t := s.blocksCleared.restart) hrange rfl rfl rfl rfl rfl
  | pullReset s => exact fun _ => .of_restarted Settings.default_inRange rfl rfl rfl rfl rfl
  | releaseReset s straps pcsLow => exact fun _ => .of_restarted Settings.default_inRange rfl rfl rfl rfl rfl
  | peer s k p => exact fun hs => State.ConfigFits.of_eq hs rfl rfl rfl rfl
  | startReached s => exact fun hs => State.ConfigFits.of_eq hs rfl rfl rfl rfl
  | channel s k c => exact fun hs => State.ConfigFits.of_eq hs rfl rfl rfl rfl
  | stage s k i set => exact fun hs => State.ConfigFits.of_eq hs rfl rfl rfl rfl
  | unstage s k i => exact fun hs => State.ConfigFits.of_eq hs rfl rfl rfl rfl
  | marker s k m => exact fun hs => State.ConfigFits.of_eq hs rfl rfl rfl rfl
  | load s i r => exact fun hs => State.ConfigFits.of_eq hs rfl rfl rfl rfl
  | free s i => exact fun hs => State.ConfigFits.of_keeps hs (freeEntry_keeps s i)
  | pop s i rest =>
    intro hs
    have hqueued : (s.setCompletions rest).ConfigFits := hs
    exact State.ConfigFits.of_keeps hqueued (freeEntry_keeps _ i)
  | reaction w _ => exact fun hs => State.ConfigFits.of_eq (State.ConfigFits.of_keeps hs w.keeps) rfl rfl rfl rfl
  | work w => exact fun hs => State.ConfigFits.of_keeps hs w.keeps

/-- Settles O59: only CONFIGURE and the resets replace the record, and the timer takes it over with them. -/
theorem stepKeepsConfiguration : Obligations.StepKeepsConfiguration :=
  keptByStep_of_evolves (fun _ _ _ hs => hs) fun _ _ h => h.configFits

/-! ### R62, R63, R68, R74: the peer table -/

/-- The invariants of the peer table as a structure. -/
structure State.PeerTableFits (s : State) : Prop where
  tracking : s.peers.tracking = s.line.state.synced
  clear : s.line.state.synced = false → s.peers = PeerTable.cleared
  unused : ∀ k, s.peerInUse k = false → s.peer k = PeerRecord.cleared
  fits : ∀ k, (s.peer k).Fits s.settings.lossLimit

theorem State.peerTableFits_iff : s.PeerTableFits ↔ s.PeersFit :=
  ⟨fun h => ⟨h.tracking, h.clear, fun k => ⟨h.unused k, (h.fits k).1, (h.fits k).2⟩⟩,
    fun ⟨ht, hc, hr⟩ => ⟨ht, hc, fun k => (hr k).1, fun k => (hr k).2⟩⟩

theorem State.peer_cleared (hp : s.peers.records = PeerTable.cleared.records) (k : Station) :
    s.peer k = PeerRecord.cleared := by
  simp [State.peer, hp, PeerTable.cleared]

theorem PeerRecord.cleared_fits (limit : Nat) : PeerRecord.cleared.Fits limit :=
  ⟨by decide, fun h => by simp [PeerRecord.cleared] at h⟩

namespace State.PeerTableFits

/-- A table of cleared records fits wherever its tracking does. -/
theorem of_cleared (hp : t.peers.records = PeerTable.cleared.records)
    (htracking : t.peers.tracking = t.line.state.synced)
    (hclear : t.line.state.synced = false → t.peers = PeerTable.cleared) : t.PeerTableFits :=
  ⟨htracking, hclear, fun k _ => State.peer_cleared hp k, fun k => State.peer_cleared hp k ▸ PeerRecord.cleared_fits _⟩

theorem of_eq (h : s.PeerTableFits) (hp : t.peers = s.peers) (hsynced : t.line.state.synced = s.line.state.synced)
    (hsettings : t.settings = s.settings) (hstation : t.timer.station = s.timer.station) : t.PeerTableFits := by
  have hk (k : Station) : t.peer k = s.peer k := by rw [State.peer, State.peer, hp]
  have huse (k : Station) : t.peerInUse k = s.peerInUse k := by
    rw [State.peerInUse, State.peerInUse, hsettings, hstation]
  refine ⟨by rw [hp, hsynced, h.tracking], fun hs => ?_, fun k hu => ?_, fun k => ?_⟩
  · rw [hp]; exact h.clear (hsynced ▸ hs)
  · rw [hk]; exact h.unused k (huse k ▸ hu)
  · rw [hk, hsettings]; exact h.fits k

theorem of_keeps {l : List Block} (h : s.PeerTableFits) (hk : Keeps l s t) (hp : .peers ∉ l := by decide)
    (hl : .line ∉ l := by decide) (hs : .settings ∉ l := by decide) (ht : .timer ∉ l := by decide) :
    t.PeerTableFits := by
  have hline : t.line = s.line := hk .line hl
  have htimer : t.timer = s.timer := hk .timer ht
  exact h.of_eq (hk .peers hp) (by rw [hline]) (hk .settings hs) (by rw [htimer])

/-- One record in use is replaced by one that fits. -/
theorem setPeer (h : s.PeerTableFits) (k : Station) (p : PeerRecord) (huse : s.peerInUse k = true)
    (htracking : s.peers.tracking = true) (hfits : p.Fits s.settings.lossLimit) : (s.setPeer k p).PeerTableFits := by
  have hsynced : s.line.state.synced = true := h.tracking ▸ htracking
  have hpeer (j : Station) := s.peer_setPeer k j p
  refine ⟨h.tracking, fun hs => ?_, fun j hu => ?_, fun j => ?_⟩
  · have hs' : s.line.state.synced = false := hs
    simp [hsynced] at hs'
  · have hjk : j ≠ k := fun hjk => by
      have hu' : s.peerInUse j = false := hu
      simp [hjk, huse] at hu'
    rw [hpeer, if_neg hjk]
    exact h.unused j hu
  · rw [hpeer]
    split
    · exact hfits
    · exact h.fits j

/-- Entry to LISTEN or OFFLINE clears the table, and any other change between states of one kind leaves it (R74). -/
theorem enter (h : s.PeerTableFits) (target : LineState)
    (hpeers : target = .listen ∨ target = .offline ∨ target.synced = s.line.state.synced) :
    (s.enter target).PeerTableFits := by
  have hline : (s.enter target).line.state = target := by rw [State.enter_line]; rfl
  by_cases ht : target = .listen ∨ target = .offline
  · have hcleared : (s.enter target).peers = PeerTable.cleared := by rw [State.enter_idle s ht]; rfl
    have hsynced : target.synced = false := by rcases ht with rfl | rfl <;> rfl
    exact .of_cleared (by rw [hcleared]) (by rw [hcleared, hline, hsynced]; rfl) fun _ => hcleared
  · rw [not_or] at ht
    have hsynced := (hpeers.resolve_left ht.1).resolve_left ht.2
    have hk := enter_keeps s target
    have hkept : (s.enter target).peers = s.peers := by
      rw [State.enter_other s ht.1 ht.2]
      exact State.turned_keeps s target .peers (by decide)
    have htimer : (s.enter target).timer = s.timer := hk .timer (by decide)
    exact h.of_eq hkept (by rw [hline, hsynced]) (hk .settings (by decide)) (by rw [htimer])

/-- The table tracks from the change on, its records cleared if it was IDLE (R63). -/
theorem enterTracking (h : s.PeerTableFits) (target : LineState) (r : Round) (htarget : target.synced = true) :
    ((s.enter target).startTracking r).PeerTableFits := by
  by_cases hsynced : s.line.state.synced = true
  · have hentered := h.enter target (.inr (.inr (htarget.trans hsynced.symm)))
    have htracking : (s.enter target).peers.tracking = true := by
      rw [hentered.tracking, State.enter_line]; exact htarget
    rwa [State.startTracking, if_pos htracking]
  · have hcleared := h.clear (by simpa using hsynced)
    have hkept : (s.enter target).peers = s.peers := by
      have hlisten : target ≠ .listen := fun ht => by simp [ht, LineState.synced] at htarget
      have hoffline : target ≠ .offline := fun ht => by simp [ht, LineState.synced] at htarget
      rw [State.enter_other s hlisten hoffline]
      exact State.turned_keeps s target .peers (by decide)
    have hidle : (s.enter target).peers.tracking ≠ true := by rw [hkept, hcleared]; decide
    have hline : (s.enter target).line.state.synced = true := by rw [State.enter_line]; exact htarget
    rw [State.startTracking, if_neg hidle]
    refine .of_cleared ?_ hline.symm fun hs => ?_
    · rw [State.setPeers_peers, hkept, hcleared]
    · have hs' : (s.enter target).line.state.synced = false := hs
      simp [hline] at hs'

end State.PeerTableFits

theorem Evolves.peerTableFits (h : Evolves s t) : s.ConfigFits → s.PeerTableFits → t.PeerTableFits := by
  induction h with
  | refl s => exact fun _ => id
  | trans h _ ih ih' => exact fun hc hs => ih' (h.configFits hc) (ih hc hs)
  | aside h => exact fun _ hs => hs.of_keeps h
  | timer s x hstation => exact fun _ hs => hs.of_eq rfl rfl rfl hstation
  | frames s f => exact fun _ hs => hs.of_eq rfl rfl rfl rfl
  | line s l hstate => exact fun _ hs => hs.of_eq rfl (congrArg LineState.synced hstate) rfl rfl
  | lock s => exact fun _ hs => hs.of_eq rfl rfl rfl rfl
  | enter s target _ hpeers => exact fun _ hs => hs.enter target hpeers
  | enterTracking s target r _ htarget => exact fun _ hs => hs.enterTracking target r htarget
  | configure s c hunlocked =>
    rintro ⟨-, -, -, -, -, -, -, -, -, hoffline, -⟩ hs
    have hsynced : s.line.state.synced = false := by rw [hoffline hunlocked]; rfl
    have hcleared := hs.clear hsynced
    exact .of_cleared (congrArg PeerTable.records hcleared) hs.tracking fun _ => hcleared
  | portReset s => exact fun _ _ => .of_cleared rfl rfl fun _ => rfl
  | pullReset s => exact fun _ _ => .of_cleared rfl rfl fun _ => rfl
  | releaseReset s => exact fun _ _ => .of_cleared rfl rfl fun _ => rfl
  | peer s k p huse htracking hfits =>
    rintro ⟨-, -, h2, h7, -⟩ hs
    exact hs.setPeer k p huse htracking (hfits h2 h7 (hs.fits k))
  | startReached s =>
    refine fun _ hs => ⟨hs.tracking, fun hn => ?_, hs.unused, hs.fits⟩
    rw [State.setPeers_peers, hs.clear hn]
    rfl
  | channel s k c => exact fun _ hs => hs.of_eq rfl rfl rfl rfl
  | stage s k i set => exact fun _ hs => hs.of_eq rfl rfl rfl rfl
  | unstage s k i => exact fun _ hs => hs.of_eq rfl rfl rfl rfl
  | marker s k m => exact fun _ hs => hs.of_eq rfl rfl rfl rfl
  | load s i r => exact fun _ hs => hs.of_eq rfl rfl rfl rfl
  | free s i => exact fun _ hs => hs.of_keeps (freeEntry_keeps s i)
  | pop s i rest =>
    intro _ hs
    have hqueued : (s.setCompletions rest).PeerTableFits := hs.of_eq rfl rfl rfl rfl
    exact hqueued.of_keeps (freeEntry_keeps _ i)
  | reaction w _ => exact fun _ hs => (hs.of_keeps w.keeps).of_eq rfl rfl rfl rfl
  | work w => exact fun _ hs => hs.of_keeps w.keeps

/-- Settles O60: the records change in the synced states alone, and are clear in the others. -/
theorem stepKeepsPeers : Obligations.StepKeepsPeers := by
  refine keptByStep_of_evolves (fun _ _ _ hs => hs) fun s t h ⟨hconfig, hpeers⟩ => ?_
  exact ⟨h.configFits hconfig, State.peerTableFits_iff.mp (h.peerTableFits hconfig (State.peerTableFits_iff.mpr hpeers))⟩

end Sys2Proof.Machine
end

section
/-!
PROOFS about every command: each answers a next state and leaves the model's own fields alone, none acts while RESETN is
low; and what the two resets and the port reset leave.
-/

namespace Sys2Proof.Machine

-- One lemma after another: side by side, the evaluations of `decide` would each hold a thread.
set_option Elab.async false

variable {s t u : State}

/-! ### The blocks that commands may change -/

/-- Every block but the model's own two. -/
abbrev acting : List Block :=
  [.resetHeld, .timer, .settings, .locked, .frames, .counters, .line, .peers, .entries, .completions, .channels, .triggers,
   .markers, .latches, .port]

theorem Keeps.acting_of {l : List Block} (h : Keeps l s t) (sub : ∀ b ∈ l, b ∈ acting := by decide) : Keeps acting s t :=
  h.mono acting sub

/-- A state that has the same queue and the same counter. -/
theorem Keeps.of_own (hpending : t.pending = s.pending) (hchoices : t.choices = s.choices) : Keeps acting s t := by
  intro b hb
  have hown : b = .pending ∨ b = .choices := by
    cases b with
    | pending => exact .inl rfl
    | choices => exact .inr rfl
    | _ => exact absurd hb (by decide)
  rcases hown with rfl | rfl
  · exact hpending
  · exact hchoices

/-- The state `s` with the listed blocks taken from `t`. -/
def State.taking (l : List Block) (s t : State) : State :=
  { resetHeld := if .resetHeld ∈ l then t.resetHeld else s.resetHeld
    timer := if .timer ∈ l then t.timer else s.timer
    settings := if .settings ∈ l then t.settings else s.settings
    locked := if .locked ∈ l then t.locked else s.locked
    frames := if .frames ∈ l then t.frames else s.frames
    counters := if .counters ∈ l then t.counters else s.counters
    line := if .line ∈ l then t.line else s.line
    peers := if .peers ∈ l then t.peers else s.peers
    entries := if .entries ∈ l then t.entries else s.entries
    completions := if .completions ∈ l then t.completions else s.completions
    channels := if .channels ∈ l then t.channels else s.channels
    triggers := if .triggers ∈ l then t.triggers else s.triggers
    markers := if .markers ∈ l then t.markers else s.markers
    latches := if .latches ∈ l then t.latches else s.latches
    port := if .port ∈ l then t.port else s.port
    choices := if .choices ∈ l then t.choices else s.choices
    pending := if .pending ∈ l then t.pending else s.pending }

/-- A frame as an equation: a state whose other blocks are those of `s` is `s` with its own listed blocks. -/
theorem Keeps.eq_taking {l : List Block} (h : Keeps l s t) : t = State.taking l s t := by
  have hfield {α : Type} (b : Block) (f : State → α) (hsame : b.same s t → f t = f s) :
      f t = if b ∈ l then f t else f s := by
    split
    · rfl
    · next hb => exact hsame (h b hb)
  cases t
  simp only [State.taking, State.mk.injEq]
  exact ⟨hfield .resetHeld State.resetHeld id, hfield .timer State.timer id, hfield .settings State.settings id,
    hfield .locked State.locked id, hfield .frames State.frames id, hfield .counters State.counters id,
    hfield .line State.line id, hfield .peers State.peers id, hfield .entries State.entries id,
    hfield .completions State.completions id, hfield .channels State.channels id, hfield .triggers State.triggers id,
    hfield .markers State.markers id, hfield .latches State.latches id, hfield .port State.port id,
    hfield .choices State.choices id, hfield .pending State.pending id⟩

theorem Evolves.keepsOwn (h : Evolves s t) : Keeps acting s t := by
  induction h with
  | refl s => exact .refl _ s
  | trans _ _ ih ih' => exact ih.trans ih'
  | aside h => exact h.acting_of
  | enter s target => exact (enter_keeps s target).acting_of
  | enterTracking s target r => exact (enter_keeps s target).acting_of.trans (startTracking_keeps _ r).acting_of
  | portReset s => exact State.portReset_eq s ▸ .of_own rfl rfl
  | free s i => exact (freeEntry_keeps s i).acting_of
  | pop s i rest => exact (setCompletions_keeps s rest).acting_of.trans (freeEntry_keeps _ i).acting_of
  | reaction w _ => exact w.keeps.acting_of.trans (setCompletions_keeps _ _).acting_of
  | work w => exact w.keeps.acting_of
  | _ => exact .of_own rfl rfl

/-! ### Every command -/

/-- Every command answers a next state. -/
theorem exec_next (c : Instr) (s : State) : ∃ t : State, exec c s = .next t := by
  cases c with
  | _ => exact ⟨_, rfl⟩

/-- Settles O1. -/
theorem stepTakesFrontCommand : Obligations.StepTakesFrontCommand := by
  intro c rest s h
  rw [step, h]

/-- Settles O3: the changes that commands are made of leave the model's own fields alone. -/
theorem everyCommandAnswersNext : Obligations.EveryCommandAnswersNext := by
  intro i s
  obtain ⟨t, ht⟩ := exec_next i s
  have hkeeps := (Evolves.exec i ht).keepsOwn
  exact ⟨t, ht, hkeeps .pending (by decide), hkeeps .choices (by decide)⟩

/-- Settles O4: every other command acts only when the station runs. -/
theorem heldStationIgnoresCommands : Obligations.HeldStationIgnoresCommands := by
  intro i s hheld hlow hrelease
  cases i with
  | resetnLow => exact absurd rfl hlow
  | resetnRelease straps pcsLow => exact absurd rfl (hrelease straps pcsLow)
  | _ =>
    change Host.Outcome.next (if s.resetHeld = true then s else _) = .next s
    rw [if_pos hheld]

/-! ### The resets -/

/-- Every block but the timer, the configuration record, the trigger inputs and the port stands at its reset value. -/
structure State.IsCleared (t : State) : Prop where
  frames : t.frames = FrameLayer.empty
  counters : t.counters = Counters.zero
  line : t.line = LineController.offline
  peers : t.peers = PeerTable.cleared
  entries : t.entries = Vector.replicate 16 Entry.blank
  completions : t.completions = []
  channels : t.channels = Vector.replicate 8 Channel.afterReset
  markers : t.markers = Vector.replicate 2 Marker.low
  latches : t.latches = Latches.empty
  locked : t.locked = false

theorem State.IsCleared.clearedByReset (h : t.IsCleared) : t.ClearedByReset := by
  have hpeer (k : Station) : t.peer k = PeerRecord.cleared := State.peer_cleared (by rw [h.peers]) k
  have hchannel (k : ChannelIndex) : t.channel k = Channel.afterReset := by simp [State.channel, h.channels]
  have hmarker (k : MarkerIndex) : t.marker k = Marker.low := by simp [State.marker, h.markers]
  refine ⟨?_, ?_, ?_, ?_, ⟨State.entry_of_blank h.entries, h.completions⟩, fun k => ?_, fun k => ?_, ?_, h.locked, ?_, ?_⟩
  · rw [h.frames]; decide
  · rw [h.counters]; decide
  · rw [h.line]; decide
  · refine ⟨by rw [h.peers]; rfl, by rw [h.peers]; rfl, fun k => ?_⟩
    rw [hpeer]; decide
  · rw [hchannel]; decide
  · rw [hmarker]; decide
  · rw [h.latches]; decide
  · rw [State.lde, h.frames]; decide
  · rw [State.attn, h.completions, h.latches]
    simp [Latches.empty]

theorem State.pullReset_isCleared (s : State) : s.pullReset.IsCleared := by
  constructor <;> rfl

theorem State.releaseReset_isCleared (s : State) (straps : BitVec 4) (pcsLow : Bool) :
    (s.pullReset.releaseReset straps pcsLow).IsCleared := by
  constructor <;> rfl

theorem State.portReset_isCleared (s : State) : s.portReset.IsCleared := by
  rw [State.portReset_eq]
  constructor <;> rfl

/-- No sampled level and no edge stands after a reset (R169). -/
theorem State.trigger_of_unsampled (h : t.triggers = Vector.replicate 4 Trigger.unsampled) (k : InputIndex) :
    (t.trigger k).level = none ∧ (t.trigger k).lastEdge = none := by
  simp [State.trigger, h, Trigger.unsampled]

/-- Settles O6. -/
theorem resetnLowClearsStation : Obligations.ResetnLowClearsStation := fun s =>
  ⟨s.pullReset, rfl, rfl, s.pullReset_isCleared.clearedByReset, rfl, State.trigger_of_unsampled rfl, rfl, rfl, rfl, rfl,
    rfl⟩

/-- Settles O7. -/
theorem resetnReleaseStartsTimer : Obligations.ResetnReleaseStartsTimer := fun straps pcsLow s =>
  ⟨s.pullReset.releaseReset straps pcsLow, rfl, rfl, (s.releaseReset_isCleared straps pcsLow).clearedByReset, rfl, rfl, rfl,
    rfl, rfl, rfl, rfl, rfl, State.trigger_of_unsampled rfl, rfl⟩

/-- Settles O9: an empty table, cleared queues and the default configuration meet each invariant. -/
theorem resetMeetsInvariants : Obligations.ResetMeetsInvariants := by
  have hcleared : State.reset.IsCleared := by constructor <;> rfl
  have hannounce : State.reset.AnnounceFits := .of_blank rfl rfl
  obtain ⟨hconditions, hmatches⟩ := State.announceFits_iff.mp hannounce
  exact ⟨.of_blank rfl rfl, (State.NamesFit.of_blank rfl).unique, stepKeepsPendingSynced.1, hconditions, hmatches,
    State.stagedFits_iff.mp (.of_blank rfl rfl), State.drivesFit_iff.mp (.of_blank rfl rfl),
    .of_restarted Settings.default_inRange rfl rfl rfl rfl rfl,
    State.peerTableFits_iff.mp (.of_cleared rfl rfl fun _ => rfl), hcleared.clearedByReset, rfl, rfl, rfl, rfl⟩

/-! ### The marker -/

/-- Settles O34. -/
theorem markerPulseEnds : Obligations.MarkerPulseEnds := by
  intro k s hrunning
  refine ⟨s.setMarker k Marker.low, State.whenRunning_running s (·.setMarker k Marker.low) hrunning, rfl, ?_, fun j hj => ?_⟩
  · rw [State.marker_setMarker, if_pos rfl]
    rfl
  · rw [State.marker_setMarker, if_neg hj]

end Sys2Proof.Machine
end

section
/-!
PROOFS about the local port: the start of a transaction, the answers to the port's commands, and what each command does
(Sections 5, 6, 8 and 10).
-/

namespace Sys2Proof.Machine

-- One lemma after another: side by side, the evaluations of `decide` would each hold a thread.
set_option Elab.async false

variable {s t u : State}

/-! ### Indices, and the answers of the port -/

theorem indexOf_of_le {b : Byte} (h : 16 ≤ b.toNat) : indexOf b = none := dif_neg (by omega)

theorem indexOf_eq {b : Byte} {i : EntryIndex} (h : b.toNat = i.val) : indexOf b = some i := by
  have hlt : b.toNat < 16 := h ▸ i.isLt
  rw [indexOf, dif_pos hlt]
  exact congrArg some (Fin.ext h)

theorem channelOf_of_le {b : Byte} (h : 8 ≤ b.toNat) : channelOf b = none := dif_neg (by omega)

theorem channelOf_eq {b : Byte} {k : ChannelIndex} (h : b.toNat = k.val) : channelOf b = some k := by
  have hlt : b.toNat < 8 := h ▸ k.isLt
  rw [channelOf, dif_pos hlt]
  exact congrArg some (Fin.ext h)

/-- The station as the block that owns a command finds it: behind a port with empty transaction state (R180). -/
def State.handed (s : State) : State := s.setPort { Port.idle with closedNow := s.port.closedNow }

/-- A port command of a station that takes it does what its block does to the station behind the port (R180). -/
theorem State.commandRow_eq (h : s.Ready) (c : PortCommand) (args : List Byte) (run : State → Reply) :
    s.commandRow c args run = .next ((run s.handed).finish c args) :=
  s.commandRow_ready c args run h.1 h.2

theorem State.commandRow_refused {c : PortCommand} {args : List Byte} {run : State → Reply} {code : ResultCode}
    (h : s.Ready) (hrun : run s.handed = s.handed.refuse code) (hcode : code ≠ .ok := by decide) :
    s.commandRow c args run = .next (s.refused c args code) := by
  rw [State.commandRow_eq h, hrun, Reply.finish_refuse _ c args code hcode]
  rfl

theorem State.commandRow_accepted {c : PortCommand} {args : List Byte} {run : State → Reply}
    (h : s.Ready) (hrun : run s.handed = u.accept) :
    s.commandRow c args run = .next (u.answered c args []) := by
  rw [State.commandRow_eq h, hrun, Reply.finish_accept]
  rfl

theorem State.commandRow_reported {c : PortCommand} {args data : List Byte} {run : State → Reply}
    (h : s.Ready) (hrun : run s.handed = u.report data) :
    s.commandRow c args run = .next (u.answered c args data) := by
  rw [State.commandRow_eq h, hrun, Reply.finish_report]
  rfl

/-! ### Transactions -/

theorem commandOf_byte (c : PortCommand) : commandOf c.byte = some c := by cases c <;> rfl

theorem commandOf_eq_none {b : Byte} (h : ∀ c : PortCommand, c.byte ≠ b) : commandOf b = none := by
  simp [commandOf, h]

/-- Settles O35. -/
theorem transactionStartsAndUnknownByte : Obligations.TransactionStartsAndUnknownByte := by
  refine ⟨rfl, rfl, fun p => by cases p <;> decide, fun s hrunning => ⟨fun hidle => ?_, fun hbusy => ?_, fun b htakes hb => ?_,
    fun c => ?_⟩⟩
  · exact (State.whenRunning_running s _ hrunning).trans (congrArg _ (if_pos hidle))
  · exact (State.whenRunning_running s _ hrunning).trans (congrArg _ (if_neg hbusy))
  · exact (State.whenRunning_running s _ hrunning).trans (congrArg _ (if_pos ⟨htakes, commandOf_eq_none hb⟩))
  · have hknown : ¬(s.port.state.takesCommand = true ∧ commandOf c.byte = none) := by simp [commandOf_byte]
    exact (State.whenRunning_running s _ hrunning).trans (congrArg _ (if_neg hknown))

/-- Settles O8. -/
theorem portResetKeepsConfiguration : Obligations.PortResetKeepsConfiguration := by
  intro s hready
  have ht : exec .reset s = .next (s.handed.portReset.answered .reset [] []) := State.commandRow_accepted hready rfl
  have hcleared := s.handed.portReset_isCleared
  rw [State.portReset_eq] at ht hcleared
  obtain ⟨hf, hc, hl, hp, he, hq, hch, hm, hla, hlo⟩ := hcleared
  have hanswered : (s.handed.blocksCleared.restart.answered .reset [] []).IsCleared := ⟨hf, hc, hl, hp, he, hq, hch, hm, hla, hlo⟩
  refine ⟨_, ht, hready.1, hanswered.clearedByReset, rfl, rfl, rfl, rfl, rfl, rfl, rfl, rfl, fun k => ?_, rfl⟩
  have htrigger : (s.handed.blocksCleared.restart.answered .reset [] []).trigger k = (s.trigger k).portReset := by
    exact Vector.getElem_map _ _
  rw [htrigger]
  exact ⟨rfl, rfl⟩

/-! ### Edges of PCK, and the end of a transaction -/

theorem shiftIn_getLsbD_zero (b : Byte) (v : Bool) : (shiftIn b v).getLsbD 0 = v := by
  cases v <;> simp [shiftIn]

theorem shiftIn_getLsbD_succ (b : Byte) (v : Bool) {n : Nat} (h : n < 7) :
    (shiftIn b v).getLsbD (n + 1) = b.getLsbD n := by
  have hlt : n < 8 := by omega
  have hsucc : n + 1 < 8 := by omega
  cases v <;> simp [shiftIn, hsucc, BitVec.getLsbD_eq_getElem hlt]

/-- A rising edge of PCK on a running station. -/
theorem exec_pckRisingEdge (h : s.resetHeld = false) (pdi : Bool) :
    exec (.pckRisingEdge pdi) s = .next (s.clockPort pdi) :=
  State.whenRunning_running s (·.clockPort pdi) h

theorem State.clockPort_ignored (h : s.port.state = .idle ∨ s.port.state = .deselectWait ∨ s.port.state = .trailing)
    (pdi : Bool) : s.clockPort pdi = s := by
  rcases h with h | h | h <;> simp [State.clockPort, h]

/-- A bit that does not complete a byte is shifted in (R178). -/
theorem State.clockPort_bit (h : s.port.state = .command ∨ s.port.state = .arguments) (hbits : s.port.bits < 7) (pdi : Bool) :
    s.clockPort pdi =
      s.setPort { s.port with bits := s.port.bits + 1, shift := shiftIn s.port.shift pdi, closedNow := [] } := by
  have hmore : s.port.bits + 1 < 8 := by omega
  rcases h with h | h <;> simp [State.clockPort, h, State.takeBit, hmore]

theorem State.clockPort_turnaround (h : s.port.state = .turnaround) (hbits : s.port.bits < 7) (pdi : Bool) :
    s.clockPort pdi = s.setPort { s.port with bits := s.port.bits + 1 } := by
  have hmore : s.port.bits + 1 < 8 := by omega
  simp [State.clockPort, h, hmore]

theorem State.clockPort_turnaround_last (h : s.port.state = .turnaround) (hbits : s.port.bits = 7) (pdi : Bool) :
    s.clockPort pdi = s.setPort { s.port with state := .response, bits := 0 } := by
  simp [State.clockPort, h, hbits]

/-- Settles O36. -/
theorem clockEdgeTakesOneBit : Obligations.ClockEdgeTakesOneBit := by
  intro pdi s hrunning
  rw [exec_pckRisingEdge hrunning]
  refine ⟨fun h => ?_, fun h hbits => ⟨shiftIn s.port.shift pdi, ?_, ?_, fun n => ?_⟩, fun h hbits => ?_, fun h hbits => ?_⟩
  · rw [State.clockPort_ignored h]
  · rw [State.clockPort_bit h hbits]; rfl
  · exact shiftIn_getLsbD_zero _ _
  · exact shiftIn_getLsbD_succ _ _
  · rw [State.clockPort_turnaround h hbits]; rfl
  · rw [State.clockPort_turnaround_last h hbits]; rfl

/-- Taking the pending commit, or the abort, and behind it the idle port (R182). -/
theorem exec_transactionEnd (h : s.resetHeld = false) : exec .transactionEnd s = .next s.endTransaction :=
  State.whenRunning_running s State.endTransaction h

theorem State.endTransaction_idle
    (h : s.port.state = .idle ∨ s.port.state = .deselectWait ∨ (s.port.state = .command ∧ s.port.bits = 0) ∨
      (s.port.commit = none ∧
        (s.port.state = .turnaround ∨ s.port.state = .response ∨ s.port.state = .trailing))) :
    s.endTransaction = s.setPort Port.idle := by
  rcases h with h | h | ⟨h, hbits⟩ | ⟨hnone, h | h | h⟩ <;> simp [State.endTransaction, State.commitPending, *]

theorem State.endTransaction_abort
    (h : (s.port.state = .command ∧ s.port.bits ≠ 0) ∨ s.port.state = .arguments ∨
      (s.port.commit ≠ none ∧ (s.port.state = .turnaround ∨ s.port.state = .response))) :
    s.endTransaction = s.abortPort.setPort Port.idle := by
  rcases h with ⟨h, hbits⟩ | h | ⟨hcommit, h | h⟩ <;> simp [State.endTransaction, *]

theorem State.endTransaction_commit (h : s.port.state = .trailing) :
    s.endTransaction = s.commitPending.setPort Port.idle := by
  simp [State.endTransaction, h]

/-- A member stays unless it was reported and not raised again (R175). -/
theorem getLsbD_removed {w : Nat} (x r again : BitVec w) (b : Nat) :
    (x &&& ~~~(r &&& ~~~again)).getLsbD b = (x.getLsbD b && !(r.getLsbD b && !again.getLsbD b)) := by
  by_cases hb : b < w
  · simp [hb]
  · simp [BitVec.getLsbD_of_ge x b (by omega)]

/-- Settles O39. -/
theorem transactionEndCommitsOrAborts : Obligations.TransactionEndCommitsOrAborts := by
  intro s hrunning
  rw [exec_transactionEnd hrunning]
  refine ⟨fun h => ?_, fun h => ?_, fun h hcommit => ?_, fun r h hcommit hreport => ?_, fun i rest h hcommit hqueue => ?_⟩
  · rw [State.endTransaction_idle h]; rfl
  · rw [State.endTransaction_abort h]
    simp [State.abortPort, State.raise, Latches.add, Latches.discard, Event.bit]
    rfl
  · rw [State.endTransaction_commit h, State.commitPending, hcommit]; rfl
  · rw [State.endTransaction_commit h, State.commitPending, hcommit]
    have hremoved : s.latches.commit =
        { latched := s.latches.latched &&& ~~~(r.events &&& ~~~r.againEvents)
          joined := s.latches.joined &&& ~~~(r.joined &&& ~~~r.againJoined)
          lost := s.latches.lost &&& ~~~(r.lost &&& ~~~r.againLost)
          report := none } := by rw [Latches.commit, hreport]
    refine ⟨_, rfl, rfl, ?_, ?_, ?_, ?_⟩
    all_goals rw [State.setPort_latches, State.setLatches_latches, hremoved]
    all_goals exact fun b => getLsbD_removed _ _ _ b
  · rw [State.endTransaction_commit h, State.commitPending, hcommit]
    have hpop : s.commitPop = (s.setCompletions rest).freeEntry i := by rw [State.commitPop, hqueue]
    have hkeeps := freeEntry_keeps (s.setCompletions rest) i
    have hentry := (s.setCompletions rest).freeEntry_entry i
    dsimp only
    rw [hpop]
    generalize (s.setCompletions rest).freeEntry i = u at hkeeps hentry ⊢
    have hu : u = { s with completions := rest, entries := u.entries, frames := u.frames, channels := u.channels } :=
      hkeeps.eq_taking
    refine ⟨_, rfl, congrArg (State.setPort · Port.idle) hu, ?_, fun j hj => ?_⟩
    · exact (hentry i).trans (if_pos rfl)
    · exact (hentry j).trans (if_neg hj)

end Sys2Proof.Machine
end

section
/-!
PROOFS about the port's commands of the line controller: what a change of its state does to the whole station, and CONFIGURE,
JOIN and LEAVE (R16, R38, R54, R83, R186).
-/

namespace Sys2Proof.Machine

-- One lemma after another: side by side, the evaluations of `decide` would each hold a thread.
set_option Elab.async false

variable {s t u : State} {firing : List EntryIndex}

/-! ### A change of the line controller, whole -/

/-- The table's work reaches the frame layer through the announce queue and the assembled frame alone. -/
theorem TableWork.frames (h : TableWork firing s t) :
    t.frames = { s.frames with announce := t.frames.announce, assembled := t.frames.assembled } := by
  induction h with
  | refl s => rfl
  | trans _ _ ih ih' => rw [ih', ih]
  | aside h => rw [h .frames (by decide)]
  | note s i e => rfl
  | arrive s i => rfl
  | arm s i r => rfl
  | close s i o r =>
    have hframes : (s.closeEntry i o r).frames =
        ((s.setEntry i { s.entry i with state := .done, outcome := some o, reason := r }).leaveAnnounce i).frames :=
      State.discardStaged_frames _ i
    rw [hframes]
    rfl
  | swap s k named winner hnamed hwinner => rfl
  | mark s k m => rfl

/-- A reaction that closes entries is the table's work and the appends behind it (R93). -/
theorem State.abandonPending_work (s : State) (r : Reason) :
    ∃ u : State, TableWork [] s u ∧ s.abandonPending r = State.appendClosed s u :=
  ⟨_, TableWork.abandonPending s r, rfl⟩

theorem State.abandonPending_frames (s : State) (r : Reason) :
    (s.abandonPending r).frames =
      { s.frames with
        announce := (s.abandonPending r).frames.announce, assembled := (s.abandonPending r).frames.assembled } := by
  obtain ⟨u, hwork, happend⟩ := s.abandonPending_work r
  rw [happend]
  exact hwork.frames

theorem State.enter_peers_idle (s : State) {target : LineState} (ht : target = .listen ∨ target = .offline) :
    (s.enter target).peers = PeerTable.cleared := by
  rw [State.enter_idle s ht]
  rfl

/-- Entry to LISTEN or OFFLINE empties the records and the view, and the announce queue loses what closes (R27, R34). -/
theorem State.enter_frames_idle (s : State) {target : LineState} (ht : target = .listen ∨ target = .offline) :
    (s.enter target).frames =
      { s.frames with
        good := 0#16, foreign := 0#16, mark := false, view := 0#16, announce := (s.enter target).frames.announce
        assembled := (s.enter target).frames.assembled } := by
  have hturned : (s.turned target).frames = s.frames := State.turned_keeps s target .frames (by decide)
  have hwork := (s.turned target).abandonPending_frames (if target = .listen then .resync else .left)
  rw [hturned] at hwork
  rw [State.enter_idle s ht]
  generalize (s.turned target).abandonPending _ = u at hwork ⊢
  exact congrArg (fun f : FrameLayer => { f with good := 0#16, foreign := 0#16, mark := false, view := 0#16 }) hwork

/-- Entry to LISTEN or OFFLINE closes what is pending, with its reason, and leaves every other entry (R98, R99). -/
theorem State.enter_entry_idle (s : State) {target : LineState} (ht : target = .listen ∨ target = .offline)
    (i : EntryIndex) :
    (s.enter target).entry i =
      if (s.entry i).pending = true then
        { s.entry i with
          state := .done, outcome := some .abandoned, reason := some (if target = .listen then .resync else .left) }
      else s.entry i := by
  have hturned : (s.turned target).entry i = s.entry i :=
    State.entry_congr (State.turned_keeps s target .entries (by decide)) i
  have hentry := (s.turned target).abandonPending_entry (if target = .listen then .resync else .left) i
  rw [hturned] at hentry
  rw [State.enter_idle s ht]
  generalize (s.turned target).abandonPending _ = u at hentry ⊢
  exact hentry

/-- What was pending stands in the completion queue, behind what stood there (R92, R93). -/
theorem State.enter_completions_idle (s : State) {target : LineState} (ht : target = .listen ∨ target = .offline) :
    (s.enter target).completions = s.completions ++ allSixteen.filter fun i => (s.entry i).pending := by
  have hturned (i : EntryIndex) : (s.turned target).entry i = s.entry i :=
    State.entry_congr (State.turned_keeps s target .entries (by decide)) i
  have hqueue : (s.turned target).completions = s.completions := State.turned_keeps s target .completions (by decide)
  have hentry := (s.turned target).abandonPending_entry (if target = .listen then .resync else .left)
  obtain ⟨u, hwork, happend⟩ := (s.turned target).abandonPending_work (if target = .listen then .resync else .left)
  have hkept : u.completions = s.completions := (hwork.keeps .completions (by decide)).trans hqueue
  rw [happend] at hentry
  rw [State.enter_idle s ht, happend]
  change u.completions ++ _ = _
  rw [hkept, State.newlyDone]
  refine congrArg _ (List.filter_congr fun i _ => ?_)
  have hi : u.entry i = _ := hentry i
  rw [hi, hturned]
  by_cases hp : (s.entry i).pending = true
  · have hstate : (s.entry i).state = .armed ∨ (s.entry i).state = .complete := by simpa [Entry.pending] using hp
    rw [if_pos hp, hp]
    rcases hstate with h | h <;> simp [h]
  · rw [if_neg hp]
    simp [hp]

/-- With nothing pending the rendezvous table stands as it stood. -/
theorem State.enter_table_idle (s : State) {target : LineState} (ht : target = .listen ∨ target = .offline)
    (hnone : ∀ i, (s.entry i).pending = false) :
    (s.enter target).entries = s.entries ∧ (s.enter target).completions = s.completions := by
  refine ⟨Vector.ext fun i hi => ?_, ?_⟩
  · exact (s.enter_entry_idle ht ⟨i, hi⟩).trans (if_neg (by simp [hnone]))
  · rw [s.enter_completions_idle ht, List.filter_eq_nil_iff.mpr fun i _ => by simp [hnone], List.append_nil]

theorem State.enter_channel (s : State) (target : LineState) (hidle : target ≠ .listen ∧ target ≠ .offline) (k : ChannelIndex) :
    (s.enter target).channel k = (s.channel k).settle (decide (target = .active)) := by
  rw [State.enter_other s hidle.1 hidle.2, State.turned_channel]

/-! ### CONFIGURE, JOIN and LEAVE -/

/-- A freed entry leaves the announce queue and the assembled frame, and nothing else of the frame layer changes. -/
theorem State.freeEntry_frames (s : State) (i : EntryIndex) :
    (s.freeEntry i).frames =
      { s.frames with announce := (s.freeEntry i).frames.announce, assembled := (s.freeEntry i).frames.assembled } := by
  have hframes := State.discardStaged_frames ((s.setEntry i Entry.blank).leaveAnnounce i) i
  simp only [State.freeEntry, State.setFrames_frames, hframes]
  rfl

/-- The entry is HELD and does not fit a round of n slots (R83). -/
abbrev Entry.Unfit (n : Nat) (e : Entry) : Prop := e.state = .held ∧ allBelow n e.record.participants = false

theorem Entry.unfit_iff (n : Nat) (e : Entry) :
    e.Unfit n ↔ e.state = .held ∧ ∃ k : Station, hasStation e.record.participants k = true ∧ n ≤ k.val := by
  simp [Entry.Unfit, allBelow, members]

theorem State.freeUnfit_frames (s : State) (n : Nat) :
    (s.freeUnfit n).frames =
      { s.frames with announce := (s.freeUnfit n).frames.announce, assembled := (s.freeUnfit n).frames.assembled } := by
  unfold State.freeUnfit
  generalize allSixteen = l
  induction l generalizing s with
  | nil => rfl
  | cons i l ih =>
    rw [List.foldl_cons, ih]
    split
    · rw [State.freeEntry_frames]
    · rfl

/-- An entry is blank and staged nowhere where it is freed, and stands as it stood where it is not (R91). -/
structure State.FreedIf (s t : State) (j : EntryIndex) (gone : Prop) : Prop where
  freed : gone → t.entry j = Entry.blank ∧ ∀ k, (t.channel k).isStaged j = false
  kept : ¬gone → t.entry j = s.entry j ∧ ∀ k, (t.channel k).isStaged j = (s.channel k).isStaged j

theorem State.FreedIf.trans {p q : Prop} {j : EntryIndex} (h : s.FreedIf t j p) (h' : t.FreedIf u j q) :
    s.FreedIf u j (p ∨ q) := by
  refine ⟨fun hgone => ?_, fun hkept => ?_⟩
  · by_cases hq : q
    · exact h'.freed hq
    · obtain ⟨hentry, hstaged⟩ := h'.kept hq
      obtain ⟨hblank, hnone⟩ := h.freed (hgone.resolve_right hq)
      exact ⟨hentry.trans hblank, fun k => (hstaged k).trans (hnone k)⟩
  · obtain ⟨hp, hq⟩ := not_or.mp hkept
    obtain ⟨hentry, hstaged⟩ := h.kept hp
    obtain ⟨hentry', hstaged'⟩ := h'.kept hq
    exact ⟨hentry'.trans hentry, fun k => (hstaged' k).trans (hstaged k)⟩

theorem State.freeEntry_freedIf (s : State) (i j : EntryIndex) : s.FreedIf (s.freeEntry i) j (j = i) := by
  refine ⟨fun h => ⟨by rw [State.freeEntry_entry, if_pos h], fun k => ?_⟩,
    fun h => ⟨by rw [State.freeEntry_entry, if_neg h], fun k => ?_⟩⟩
  · rw [State.freeEntry_channel, Bool.eq_false_iff]
    exact fun hstaged => ((Channel.discard_isStaged _ i j).mp hstaged).2 h
  · rw [State.freeEntry_channel, Bool.eq_iff_iff, Channel.discard_isStaged]
    exact and_iff_left h

/-- The entries of a list, none twice, that do not fit are freed, and the others stand (R83). -/
theorem State.foldl_freeUnfit (n : Nat) (l : List EntryIndex) (hl : l.Nodup) (s : State) (j : EntryIndex) :
    s.FreedIf (l.foldl (fun s i => if (s.entry i).Unfit n then s.freeEntry i else s) s) j
      (j ∈ l ∧ (s.entry j).Unfit n) := by
  induction l generalizing s with
  | nil => exact ⟨fun h => by simp at h, fun _ => ⟨rfl, fun _ => rfl⟩⟩
  | cons i l ih =>
    obtain ⟨hi, hl⟩ := List.nodup_cons.mp hl
    have hfirst : s.FreedIf (if (s.entry i).Unfit n then s.freeEntry i else s) j (j = i ∧ (s.entry j).Unfit n) := by
      by_cases hu : (s.entry i).Unfit n
      · have hiff : (j = i ∧ (s.entry j).Unfit n) ↔ j = i := and_iff_left_of_imp fun h => h ▸ hu
        rw [if_pos hu, hiff]
        exact s.freeEntry_freedIf i j
      · rw [if_neg hu]
        exact ⟨fun h => absurd (h.1 ▸ h.2) hu, fun _ => ⟨rfl, fun _ => rfl⟩⟩
    have hboth := hfirst.trans (ih hl _)
    rw [List.foldl_cons]
    have hiff : ((j = i ∧ (s.entry j).Unfit n) ∨
        (j ∈ l ∧ ((if (s.entry i).Unfit n then s.freeEntry i else s).entry j).Unfit n)) ↔
          (j ∈ i :: l ∧ (s.entry j).Unfit n) := by
      by_cases hj : j = i
      · simp [hj, hi]
      · rw [(hfirst.kept fun h => hj h.1).1]
        simp [hj]
    rw [← hiff]
    exact hboth

/-- Settles O40. -/
theorem configureReplacesSettings : Obligations.ConfigureReplacesSettings := by
  intro args s hready
  refine ⟨fun hlocked => ?_, fun hunlocked hnone => ?_, fun c hunlocked hc => ?_⟩
  · exact State.commandRow_refused hready (if_pos hlocked)
  · refine State.commandRow_refused hready ?_
    have hopen : s.handed.locked = false := hunlocked
    simp [configureCommand, hopen, hnone]
  · have hopen : s.handed.locked = false := hunlocked
    have hrun : configureCommand args s.handed = ((s.handed.setSettings c).restart.freeUnfit c.size).accept := by
      simp [configureCommand, hopen, hc]
    have hfreed (i : EntryIndex) : s.FreedIf ((s.handed.setSettings c).restart.freeUnfit c.size) i ((s.entry i).Unfit c.size) := by
      have h := State.foldl_freeUnfit c.size allSixteen allSixteen_nodup (s.handed.setSettings c).restart i
      rw [and_iff_right (mem_allSixteen i)] at h
      exact ⟨h.freed, h.kept⟩
    have hframes := (s.handed.setSettings c).restart.freeUnfit_frames c.size
    have hkeeps : Keeps closing (s.handed.setSettings c).restart ((s.handed.setSettings c).restart.freeUnfit c.size) :=
      .foldl (fun u i => .ite (freeEntry_keeps u i) (.refl _ u)) _ allSixteen
    generalize (s.handed.setSettings c).restart.freeUnfit c.size = u at hrun hfreed hframes hkeeps
    have hu : u = { (s.handed.setSettings c).restart with entries := u.entries, frames := u.frames, channels := u.channels } :=
      hkeeps.eq_taking
    refine ⟨u.answered .configure args [], State.commandRow_accepted hready hrun, ?_, ?_, ?_, ?_, ?_, fun i hheld hbig => ?_,
      fun i hfits => ?_⟩
    · exact congrArg (State.answered · .configure args []) hu
    · exact congrArg FrameLayer.good hframes
    · exact congrArg FrameLayer.foreign hframes
    · exact congrArg FrameLayer.mark hframes
    · exact congrArg FrameLayer.view hframes
    · exact (hfreed i).freed (((s.entry i).unfit_iff c.size).mpr ⟨hheld, hbig⟩)
    · refine (hfreed i).kept fun hunfit => ?_
      obtain ⟨hheld, k, hk, hbig⟩ := ((s.entry i).unfit_iff c.size).mp hunfit
      exact hfits.elim (fun h => h hheld) fun h => absurd (h k hk) (by omega)

/-- Settles O41. -/
theorem joinEntersListen : Obligations.JoinEntersListen := by
  intro s hready
  refine ⟨fun h => ?_, fun hoffline hsize => ?_, fun hoffline hsize hpending => ?_⟩
  · exact State.commandRow_refused hready (if_pos h)
  · refine State.commandRow_refused hready ?_
    have hhanded : s.handed.line.state = .offline := hoffline
    have hsize' : s.handed.settings.size ≤ s.handed.timer.station.val := hsize
    simp [joinCommand, hhanded, hsize']
  · have hrun : joinCommand s.handed = ((s.handed.setLocked true).enter .listen).accept := by
      have hhanded : s.handed.line.state = .offline := hoffline
      have hsize' : ¬s.handed.settings.size ≤ s.handed.timer.station.val := Nat.not_le.mpr hsize
      simp [joinCommand, hhanded, hsize']
    have hnone (i : EntryIndex) : (s.entry i).pending = false := hpending (by rw [hoffline]; rfl) i
    have hkeeps := enter_keeps (s.handed.setLocked true) .listen
    have hline := (s.handed.setLocked true).enter_line .listen
    have hlatches := (s.handed.setLocked true).enter_latches .listen
    have htable := (s.handed.setLocked true).enter_table_idle (.inl rfl) hnone
    generalize (s.handed.setLocked true).enter .listen = u at hrun hkeeps hline hlatches htable
    obtain ⟨hentries, hqueue⟩ := htable
    have hu : u = { s.handed.setLocked true with
        line := u.line, peers := u.peers, latches := u.latches, completions := u.completions, entries := u.entries
        frames := u.frames, channels := u.channels } := hkeeps.eq_taking
    rw [hentries, hqueue] at hu
    refine ⟨u.answered .join [] [], State.commandRow_accepted hready hrun, congrArg (State.answered · .join [] []) hu, ?_, ?_, ?_⟩
    · exact congrArg LineController.state hline
    · exact congrArg LineController.listen hline
    · exact congrArg Latches.latched hlatches

/-- Settles O42. -/
theorem leaveLeavesTheRound : Obligations.LeaveLeavesTheRound := by
  intro s hready
  refine ⟨fun h => ?_, fun h => ?_, fun hoffline hactive => ?_⟩
  · refine State.commandRow_refused hready ?_
    have hhanded : s.handed.line.state = .offline := h
    simp [leaveCommand, hhanded]
  · refine State.commandRow_accepted (u := s.handed.setLine { s.line with leavePending := true }) hready ?_
    have hhanded : s.handed.line.state = .active := h
    unfold leaveCommand
    split
    · next hoffline => exact absurd (hhanded.symm.trans hoffline) (by decide)
    · rfl
    · next hactive => exact absurd hhanded hactive
  · have hrun : leaveCommand s.handed = (s.handed.enter .offline).accept := by
      have hoffline' : s.handed.line.state ≠ .offline := hoffline
      have hactive' : s.handed.line.state ≠ .active := hactive
      unfold leaveCommand
      split
      · contradiction
      · contradiction
      · rfl
    have hkeeps := enter_keeps s.handed .offline
    have hline := s.handed.enter_line .offline
    have hlatches := s.handed.enter_latches .offline
    have hpeers := s.handed.enter_peers_idle (.inr rfl)
    have hframes := s.handed.enter_frames_idle (.inr rfl)
    have hentry := s.handed.enter_entry_idle (.inr rfl)
    have hqueue := s.handed.enter_completions_idle (.inr rfl)
    generalize s.handed.enter .offline = u at hrun hkeeps hline hlatches hpeers hframes hentry hqueue
    have hu : u = { s.handed with
        line := u.line, peers := u.peers, latches := u.latches, completions := u.completions, entries := u.entries
        frames := u.frames, channels := u.channels } := hkeeps.eq_taking
    rw [hpeers] at hu
    refine ⟨u.answered .leave [] [], State.commandRow_accepted hready hrun, congrArg (State.answered · .leave [] []) hu, ?_, ?_,
      ?_, ?_, ?_, fun i hi => ?_, fun i hi => ?_⟩
    · exact congrArg LineController.state hline
    · exact congrArg LineController.listen hline
    · exact (congrArg LineController.leavePending hline).trans (Bool.and_false _)
    · exact congrArg Latches.latched hlatches
    · have htransmitting : u.frames.transmitting = s.frames.transmitting := by
        rw [hframes]
        rfl
      exact htransmitting
    · have hclosed := (hentry i).trans (if_pos hi)
      refine ⟨congrArg Entry.state hclosed, congrArg Entry.outcome hclosed, congrArg Entry.reason hclosed, ?_⟩
      change i ∈ u.completions
      rw [hqueue]
      exact List.mem_append_right _ (List.mem_filter.mpr ⟨mem_allSixteen i, hi⟩)
    · exact (hentry i).trans (if_neg (Bool.not_eq_true _ ▸ hi))

end Sys2Proof.Machine
end

section
/-!
PROOFS about the port's commands of the rendezvous table: LOAD, ARM, ARRIVE and CANCEL (R81, R84, R88, R105).
-/

namespace Sys2Proof.Machine

-- One lemma after another: side by side, the evaluations of `decide` would each hold a thread.
set_option Elab.async false

variable {s t u : State}

/-! ### LOAD, ARM and ARRIVE -/

theorem mem_members (set : StationSet) (k : Station) : k ∈ members set ↔ hasStation set k = true := by
  simp [members]

theorem allBelow_iff (n : Nat) (set : StationSet) : allBelow n set = true ↔ ∀ k, hasStation set k = true → k.val < n := by
  simp only [allBelow, List.all_eq_true, mem_members, decide_eq_true_eq]

theorem legalRecord_iff (n : Nat) (station : Station) (i : EntryIndex) (r : LoadedRecord) :
    legalRecord n station i r = true ↔ r.Legal n station i := by
  have hcondition : (decide (r.condition = .none) == !hasStation r.participants station) = true ↔
      (r.condition = .none ↔ hasStation r.participants station = false) := by
    by_cases h : r.condition = .none <;> simp [h]
  have hlead : (decide (r.condition ≠ .none) || decide (r.lead = 0#4)) = true ↔ (r.condition = .none → r.lead = 0#4) := by
    by_cases h : r.condition = .none <;> simp [h]
  simp only [legalRecord, LoadedRecord.Legal, Bool.and_eq_true, decide_eq_true_eq, allBelow_iff, hcondition, hlead, and_assoc]

theorem State.holdsName_iff (s : State) (i : EntryIndex) (r : LoadedRecord) :
    s.holdsName i r = true ↔ ∃ j, j ≠ i ∧ (s.entry j).state ≠ .free ∧ (s.entry j).record.number = r.number ∧
      (s.entry j).record.epoch = r.epoch := by
  simp [State.holdsName]

/-- Settles O43. -/
theorem loadTakesLegalRecord : Obligations.LoadTakesLegalRecord := by
  intro index record s hready
  have hrefused (code : ResultCode) (hcode : code ≠ .ok) (hrun : loadCommand index record s.handed = s.handed.refuse code) :
      exec (.load index record) s = .next (s.refused .load (index :: record) code) :=
    State.commandRow_refused hready hrun hcode
  refine ⟨fun hbig => hrefused _ (by decide) ?_, fun i hi => ⟨fun hstate => hrefused _ (by decide) ?_,
    fun hfree hlegal => hrefused _ (by decide) ?_, fun r hfree hr hlegal => ⟨fun hname => hrefused _ (by decide) ?_, fun hname => ?_⟩⟩⟩
  · simp only [loadCommand, indexOf_of_le hbig]
  · have hhanded : (s.handed.entry i).state ≠ .free := hstate
    simp only [loadCommand, indexOf_eq hi, if_pos hhanded]
  · have hhanded : ¬(s.handed.entry i).state ≠ .free := not_not_intro hfree
    simp only [loadCommand, indexOf_eq hi, if_neg hhanded]
    split
    · rfl
    · next r hr => 
      have hillegal := mt (legalRecord_iff _ _ _ _).mp (hlegal r hr)
      rw [if_pos (Bool.not_eq_true _ ▸ hillegal)]
  · have hhanded : ¬(s.handed.entry i).state ≠ .free := not_not_intro hfree
    have hlegal' : ¬legalRecord s.handed.settings.size s.handed.timer.station i r = false := by
      rw [Bool.not_eq_false]; exact (legalRecord_iff _ _ _ _).mpr hlegal
    have hname' : s.handed.holdsName i r = true := (State.holdsName_iff _ i r).mpr hname
    simp only [loadCommand, indexOf_eq hi, if_neg hhanded, hr, if_neg hlegal', if_pos hname']
  · have hhanded : ¬(s.handed.entry i).state ≠ .free := not_not_intro hfree
    have hlegal' : ¬legalRecord s.handed.settings.size s.handed.timer.station i r = false := by
      rw [Bool.not_eq_false]; exact (legalRecord_iff _ _ _ _).mpr hlegal
    have hname' : ¬s.handed.holdsName i r = true := by
      rw [State.holdsName_iff]
      rintro ⟨j, hj, hstate, hnumber, hepoch⟩
      exact hname j hj hstate hnumber hepoch
    refine State.commandRow_accepted (u := s.handed.setEntry i { Entry.blank with state := .held, record := r }) hready ?_
    simp only [loadCommand, indexOf_eq hi, if_neg hhanded, hr, if_neg hlegal', if_neg hname']

/-- The last of two writes to one entry stands. -/
theorem State.setEntry_setEntry (s : State) (i : EntryIndex) (e e' : Entry) :
    (s.setEntry i e).setEntry i e' = s.setEntry i e' := by
  simp [State.setEntry, State.setEntries]

/-- An armed entry, with its arrival if it is IMMEDIATE and the station is a participant (R84, R104). -/
theorem State.armEntry_eq (s : State) (i : EntryIndex) (r : Round) (now : Bool)
    (hnow : now = true ↔ (s.entry i).record.condition = .immediate ∧ s.participates (s.entry i) = true) :
    s.armEntry i r =
      (s.setEntry i
        { s.entry i with
          state := .armed, armRound := some r, arrived := now, records := Vector.replicate 16 none, recordedLead := none
          channelCount := 0#8 }).setFrames
        { s.frames with
          announce :=
            { s.frames.announce with
              uncarried := s.frames.announce.uncarried ++ (if now = true then [i] else []) } } := by
  have harrives : (s.startArmed i r).arrivesAtOnce i = now := by
    rw [Bool.eq_iff_iff, hnow]
    simp only [State.arrivesAtOnce, State.awaits, State.startArmed, State.entry_setEntry, if_true, decide_true,
      Bool.true_and, Bool.not_false, Bool.and_true, Bool.and_eq_true, decide_eq_true_eq]
    exact Iff.rfl
  rw [State.armEntry, State.arriveImmediate, harrives]
  cases now with
  | false =>
    simp only [Bool.false_eq_true, if_false, List.append_nil]
    rfl
  | true =>
    simp only [if_true, State.arriveLocally, State.startArmed, State.entry_setEntry, State.setEntry_setEntry]
    rfl

theorem LineState.synced_eq_false_iff (l : LineState) :
    l.synced = false ↔ l = .offline ∨ l = .listen ∨ l = .coldstart := by
  cases l <;> decide

theorem LineState.synced_iff (l : LineState) : l.synced = true ↔ l = .integrating ∨ l = .active ∨ l = .passive := by
  cases l <;> decide

/-- Settles O44. -/
theorem armStartsRendezvous : Obligations.ArmStartsRendezvous := by
  refine ⟨Channel.isStaged_iff, State.fullyStaged_iff, fun index s hready => ?_⟩
  have hrefused (code : ResultCode) (hcode : code ≠ .ok) (hrun : armCommand index s.handed = s.handed.refuse code) :
      exec (.arm index) s = .next (s.refused .arm [index] code) :=
    State.commandRow_refused hready hrun hcode
  refine ⟨fun hbig => hrefused _ (by decide) ?_, fun i hi => ⟨fun hstate => hrefused _ (by decide) ?_,
    fun hheld hline => hrefused _ (by decide) ?_, fun hheld hline => ⟨fun hstaged => hrefused _ (by decide) ?_, fun hstaged => ?_⟩⟩⟩
  · simp only [armCommand, indexOf_of_le hbig]
  · have hhanded : (s.handed.entry i).state ≠ .held := hstate
    simp only [armCommand, indexOf_eq hi, if_pos hhanded]
  · have hhanded : ¬(s.handed.entry i).state ≠ .held := not_not_intro hheld
    have hline' : s.handed.line.state.synced = false := (LineState.synced_eq_false_iff _).mpr hline
    simp only [armCommand, indexOf_eq hi, if_neg hhanded, if_pos hline']
  · have hhanded : ¬(s.handed.entry i).state ≠ .held := not_not_intro hheld
    have hline' : s.handed.line.state.synced = true := (LineState.synced_iff _).mpr hline
    have hstaged' : s.handed.fullyStaged i = false := by
      rw [Bool.eq_false_iff, Ne, State.fullyStaged_iff]
      obtain ⟨k, hk, hfree⟩ := hstaged
      exact fun hall => Bool.false_ne_true (hfree.symm.trans (hall k hk))
    simp only [armCommand, indexOf_eq hi, if_neg hhanded, hline', Bool.true_eq_false, if_false, if_pos hstaged']
  · have hhanded : ¬(s.handed.entry i).state ≠ .held := not_not_intro hheld
    have hline' : s.handed.line.state.synced = true := (LineState.synced_iff _).mpr hline
    have hstaged' : ¬s.handed.fullyStaged i = false := by
      rw [Bool.not_eq_false]
      exact (State.fullyStaged_iff _ i).mpr hstaged
    have hnow : decide ((s.entry i).record.condition = .immediate ∧ s.participates (s.entry i) = true) = true ↔
        (s.entry i).record.condition = .immediate ∧ s.participates (s.entry i) = true := decide_eq_true_iff
    have hrun : armCommand index s.handed = (s.handed.armEntry i s.timer.round).accept := by
      simp only [armCommand, indexOf_eq hi, if_neg hhanded, hline', Bool.true_eq_false, if_false, if_neg hstaged']
      rfl
    refine ⟨_, hnow, ?_⟩
    rw [s.handed.armEntry_eq i s.timer.round _ hnow] at hrun
    exact (State.commandRow_accepted hready hrun).trans rfl

/-- Settles O45. -/
theorem arriveIsTheLocalArrival : Obligations.ArriveIsTheLocalArrival := by
  intro index s hready
  have hrefused (code : ResultCode) (hcode : code ≠ .ok) (hrun : arriveCommand index s.handed = s.handed.refuse code) :
      exec (.arrive index) s = .next (s.refused .arrive [index] code) :=
    State.commandRow_refused hready hrun hcode
  refine ⟨fun hbig => hrefused _ (by decide) ?_, fun i hi => ⟨fun hstate => hrefused _ (by decide) ?_,
    fun harmed hother => hrefused _ (by decide) ?_, fun harmed hcommand harrived => hrefused _ (by decide) ?_,
    fun harmed hcommand hwaits => State.commandRow_accepted (u := s.handed.arriveLocally i) hready ?_⟩⟩
  · simp only [arriveCommand, indexOf_of_le hbig]
  · have hhanded : (s.handed.entry i).state ≠ .armed := hstate
    simp only [arriveCommand, indexOf_eq hi, if_pos hhanded]
  · have hhanded : ¬(s.handed.entry i).state ≠ .armed := not_not_intro harmed
    have hother' : (s.handed.entry i).record.condition ≠ .command := hother
    simp only [arriveCommand, indexOf_eq hi, if_neg hhanded, if_pos hother']
  · have hhanded : ¬(s.handed.entry i).state ≠ .armed := not_not_intro harmed
    have hcommand' : ¬(s.handed.entry i).record.condition ≠ .command := not_not_intro hcommand
    have harrived' : (s.handed.entry i).arrived = true := harrived
    simp only [arriveCommand, indexOf_eq hi, if_neg hhanded, if_neg hcommand', if_pos harrived']
  · have hhanded : ¬(s.handed.entry i).state ≠ .armed := not_not_intro harmed
    have hcommand' : ¬(s.handed.entry i).record.condition ≠ .command := not_not_intro hcommand
    have hwaits' : ¬(s.handed.entry i).arrived = true := by rw [Bool.not_eq_true]; exact hwaits
    simp only [arriveCommand, indexOf_eq hi, if_neg hhanded, if_neg hcommand', if_neg hwaits']

/-! ### CANCEL -/

theorem State.inCarriage_iff (s : State) (i : EntryIndex) :
    s.inCarriage i = true ↔ ∃ f, s.frames.assembled = some f ∧ i ∈ f.carriage := by
  cases h : s.frames.assembled <;> simp [State.inCarriage, h]

theorem State.committed_iff (s : State) (i : EntryIndex) :
    s.committed i = true ↔ s.participates (s.entry i) = true ∧
      ((s.entry i).ownAnnounce ≠ none ∨ ∃ f, s.frames.assembled = some f ∧ i ∈ f.carriage) := by
  simp only [State.committed, Bool.and_eq_true, Bool.or_eq_true, State.inCarriage_iff, Option.isSome_iff_ne_none]

theorem State.atClosing_iff (s : State) :
    s.atClosing = true ↔
      ((s.timer.slot = 0 ∧ s.timer.beat = 0 ∧ ∃ b ∈ s.timer.boundary, .table ∉ b.due) ∨
        (s.timer.slot = s.timer.station ∧ s.timer.beat = 32 ∧ ∃ x ∈ s.frames.transmitting, x.elapsed = 0)) := by
  cases hb : s.timer.boundary <;> cases hx : s.frames.transmitting <;>
    simp [State.atClosing, hb, hx, and_comm, and_assoc, and_left_comm]

theorem State.closedAtInstant_iff (s : State) (i : EntryIndex) : s.closedAtInstant i = true ↔ s.ClosedAtInstant i := by
  simp only [State.closedAtInstant, Bool.and_eq_true, State.atClosing_iff, List.contains_iff_mem]

/-- A reaction that closes one entry appends that entry (R93). -/
theorem State.newlyDone_closeEntry (s : State) (i : EntryIndex) (o : EntryOutcome) (r : Option Reason)
    (h : (s.entry i).state ≠ .done) : State.newlyDone s (s.closeEntry i o r) = [i] := by
  have hone : ∀ i : EntryIndex, (allSixteen.filter fun j => decide (j = i)) = [i] := by decide
  rw [State.newlyDone, ← hone i]
  refine List.filter_congr fun j _ => ?_
  rw [State.closeEntry_entry]
  by_cases hj : j = i
  · simp [hj, h]
  · simp [hj]

/-- What CANCEL leaves of the entry's traces: none in the announce queue and none staged (R88, R90, R91). -/
structure State.Withdrawn (s t : State) (i : EntryIndex) : Prop where
  others : ∀ j, j ≠ i → t.entry j = s.entry j
  announce : i ∉ t.frames.announce.all
  staged : ∀ k, (t.channel k).staged = (s.channel k).staged.filter fun p => decide (p.tag ≠ i)

theorem State.freeEntry_withdrawn (s : State) (i : EntryIndex) : s.Withdrawn (s.freeEntry i) i := by
  refine ⟨fun j hj => by rw [State.freeEntry_entry, if_neg hj], ?_, fun k => by rw [State.freeEntry_channel]; rfl⟩
  simp [AnnounceQueue.all, State.freeEntry_announce]

theorem State.closeEntry_withdrawn (s : State) (i : EntryIndex) (o : EntryOutcome) (r : Option Reason) :
    s.Withdrawn (s.closeEntry i o r) i := by
  refine ⟨fun j hj => by rw [State.closeEntry_entry, if_neg hj], ?_, fun k => by rw [State.closeEntry_channel]; rfl⟩
  simp [AnnounceQueue.all, State.closeEntry_announce]

theorem State.Withdrawn.appendClosed {i : EntryIndex} (h : s.Withdrawn t i) (before : State) :
    s.Withdrawn (State.appendClosed before t) i :=
  ⟨h.others, h.announce, h.staged⟩

theorem Entry.pending_iff (e : Entry) : e.pending = true ↔ e.state = .armed ∨ e.state = .complete := by
  simp [Entry.pending]

theorem cancelCommand_committed {index : Byte} {i : EntryIndex} (hi : indexOf index = some i)
    (hpending : (s.entry i).pending = true) (hcommitted : s.committed i = true) :
    cancelCommand index s = s.refuse .committed := by
  rcases (Entry.pending_iff _).mp hpending with h | h <;> simp [cancelCommand, hi, h, hcommitted]

theorem cancelCommand_closes {index : Byte} {i : EntryIndex} (hi : indexOf index = some i)
    (hpending : (s.entry i).pending = true) (hfree : s.committed i = false) :
    cancelCommand index s = (s.tableReaction fun s => s.closeEntry i .abandoned (some .cancelled)).accept := by
  rcases (Entry.pending_iff _).mp hpending with h | h <;> simp [cancelCommand, hi, h, hfree]

theorem cancelCommand_done {index : Byte} {i : EntryIndex} (hi : indexOf index = some i) (hdone : (s.entry i).state = .done) :
    cancelCommand index s =
      s.refuse (if s.committed i = true ∧ s.closedAtInstant i = true then .committed else .wrongState) := by
  simp [cancelCommand, hi, hdone]

/-- An accepted CANCEL frees a HELD entry, and closes a pending one ABANDONED (R88). -/
theorem cancelCommand_accepted {index : Byte} {i : EntryIndex} (hi : indexOf index = some i)
    (h : (s.entry i).state = .held ∨ ((s.entry i).pending = true ∧ s.committed i = false)) :
    ∃ u : State, cancelCommand index s = u.accept ∧ Keeps reacting s u ∧ s.Withdrawn u i ∧
      ((s.entry i).state = .held → u.entry i = Entry.blank ∧ u.completions = s.completions) ∧
      ((s.entry i).pending = true →
        u.entry i = { s.entry i with state := .done, outcome := some .abandoned, reason := some .cancelled } ∧
          u.completions = s.completions ++ [i]) := by
  rcases h with hheld | ⟨hpending, hfree⟩
  · refine ⟨s.freeEntry i, ?_, (freeEntry_keeps s i).mono _, s.freeEntry_withdrawn i, fun _ => ⟨?_, ?_⟩, fun hp => ?_⟩
    · simp [cancelCommand, hi, hheld]
    · rw [State.freeEntry_entry, if_pos rfl]
    · exact freeEntry_keeps s i .completions (by decide)
    · simp [Entry.pending, hheld] at hp
  · have hstate := (Entry.pending_iff _).mp hpending
    have hclosed := s.closeEntry_withdrawn i .abandoned (some .cancelled)
    have hkeeps := closeEntry_keeps s i .abandoned (some .cancelled)
    have hentry := (s.closeEntry_entry i i .abandoned (some .cancelled)).trans (if_pos rfl)
    have hnew := s.newlyDone_closeEntry i .abandoned (some .cancelled) (by rcases hstate with h | h <;> simp [h])
    have hrun := cancelCommand_closes hi hpending hfree
    rw [State.tableReaction] at hrun
    generalize s.closeEntry i .abandoned (some .cancelled) = t at hrun hclosed hkeeps hentry hnew
    refine ⟨_, hrun, ?_, hclosed.appendClosed s, fun hheld => ?_, fun _ => ⟨hentry, ?_⟩⟩
    · exact (hkeeps.mono reacting).trans ((setCompletions_keeps t _).mono reacting)
    · simp [hheld] at hstate
    · rw [State.appendClosed, State.setCompletions_completions, hnew, hkeeps .completions (by decide)]

/-- Settles O46. -/
theorem cancelWithdrawsEntry : Obligations.CancelWithdrawsEntry := by
  refine ⟨Entry.pending_iff, fun q => rfl, fun index s hready => ?_⟩
  have hrefused (code : ResultCode) (hcode : code ≠ .ok) (hrun : cancelCommand index s.handed = s.handed.refuse code) :
      exec (.cancel index) s = .next (s.refused .cancel [index] code) :=
    State.commandRow_refused hready hrun hcode
  refine ⟨fun hbig => hrefused _ (by decide) ?_, fun i hi => ⟨fun hfree => hrefused _ (by decide) ?_,
    fun committed hcommitted hdone => ⟨fun hlate => hrefused _ (by decide) ?_, fun hc hclosed => hrefused _ (by decide) ?_⟩,
    fun hpending hparticipates hannounced => hrefused _ (by decide) ?_, fun hopen => ?_⟩⟩
  · simp only [cancelCommand, indexOf_of_le hbig]
  · have hhanded : (s.handed.entry i).state = .free := hfree
    simp only [cancelCommand, indexOf_eq hi, hhanded]
  · rw [cancelCommand_done (s := s.handed) (indexOf_eq hi) hdone, if_neg]
    rintro ⟨hc, hclosed⟩
    have hc' := hcommitted.mpr ((State.committed_iff _ i).mp hc)
    exact hlate.elim (fun h => by simp [h] at hc') fun h => h ((State.closedAtInstant_iff _ i).mp hclosed)
  · rw [cancelCommand_done (s := s.handed) (indexOf_eq hi) hdone,
      if_pos ⟨(State.committed_iff _ i).mpr (hcommitted.mp hc), (State.closedAtInstant_iff _ i).mpr hclosed⟩]
  · exact cancelCommand_committed (indexOf_eq hi) hpending ((State.committed_iff _ i).mpr ⟨hparticipates, hannounced⟩)
  · have hallowed : (s.handed.entry i).state = .held ∨
        ((s.handed.entry i).pending = true ∧ s.handed.committed i = false) := by
      refine hopen.imp_right fun ⟨hpending, hnot⟩ => ⟨hpending, ?_⟩
      rw [Bool.eq_false_iff, Ne, State.committed_iff]
      rintro ⟨hparticipates, hannounced⟩
      rcases hnot with h | ⟨hnone, hcarriage⟩
      · exact Bool.false_ne_true (h.symm.trans hparticipates)
      · exact hannounced.elim (fun h => h hnone) fun ⟨f, hf, hif⟩ => hcarriage f hf hif
    obtain ⟨u, hrun, hkeeps, ⟨hothers, hannounce, hstaged⟩, hheld, hpending⟩ :=
      cancelCommand_accepted (indexOf_eq hi) hallowed
    have hu : u = { s.handed with
        completions := u.completions, entries := u.entries, frames := u.frames, channels := u.channels } :=
      hkeeps.eq_taking
    exact ⟨u.answered .cancel [index] [], State.commandRow_accepted hready hrun,
      congrArg (State.answered · .cancel [index] []) hu, hothers, hannounce, hstaged, hheld, hpending⟩

end Sys2Proof.Machine
end

section
/-!
PROOFS about the port's commands of the queues: POP, TAKE EVENTS, STAGE and UNSTAGE (R95, R157, R158, R174), and ATTN (R173).
-/

namespace Sys2Proof.Machine

-- One lemma after another: side by side, the evaluations of `decide` would each hold a thread.
set_option Elab.async false

variable {s t u : State}

/-! ### POP and TAKE EVENTS -/

theorem byte_of_index (i : EntryIndex) : (0#4 ++ (BitVec.ofFin i : BitVec 4) : Byte) = BitVec.ofNat 8 i.val := by
  revert i
  decide

theorem byte_of_number (n : BitVec 6) : (0#2 ++ n : Byte) = n.setWidth 8 := by
  revert n
  decide

/-- A command that reads leaves the station as it stands (R180). -/
theorem State.commandRow_read {c : PortCommand} {args data : List Byte} {run : State → Reply}
    (h : s.Ready) (hrun : run s.handed = s.handed.report data) :
    s.commandRow c args run = .next (s.answered c args data) :=
  (State.commandRow_reported h hrun).trans rfl

/-- Settles O47. -/
theorem popReportsHead : Obligations.PopReportsHead := by
  refine ⟨rfl, rfl, fun s hready => ⟨fun hempty => ?_, fun i rest hqueue => ?_⟩⟩
  · refine State.commandRow_refused hready ?_
    have hhanded : s.handed.completions = [] := hempty
    simp only [popCommand, hhanded]
  · have hhanded : s.handed.completions = i :: rest := hqueue
    have hrun : popCommand s.handed = s.handed.report ((s.entry i).completionBytes i) := by
      simp only [popCommand, hhanded]
      rfl
    refine ⟨_, State.commandRow_read hready hrun, rfl, congrArg some (byte_of_index i), congrArg some (byte_of_number _), rfl, rfl, rfl,
      rfl, rfl, rfl⟩

theorem State.attn_iff (s : State) : s.attn = true ↔
    (s.resetHeld = false ∧
      (s.completions ≠ [] ∨
        ∃ b : Fin 8, s.latches.latched.getLsbD b.val = true ∧ s.settings.mask.getLsbD b.val = true)) := by
  have hbits : s.latches.latched &&& s.settings.mask ≠ 0#8 ↔
      ∃ b : Fin 8, s.latches.latched.getLsbD b.val = true ∧ s.settings.mask.getLsbD b.val = true := by
    constructor
    · intro h
      refine Classical.byContradiction fun hnone => ?_
      refine h (BitVec.eq_of_getLsbD_eq fun b hb => ?_)
      simpa using not_exists.mp hnone ⟨b, hb⟩
    · rintro ⟨b, hlatched, hmask⟩ h
      have hbit := congrArg (BitVec.getLsbD · b.val) h
      rw [BitVec.getLsbD_and, hlatched, hmask, BitVec.getLsbD_zero] at hbit
      exact absurd hbit (by decide)
  simp only [State.attn, Bool.and_eq_true, Bool.or_eq_true, Bool.not_eq_true', decide_eq_true_eq, hbits,
    List.isEmpty_eq_false_iff]

/-- Settles O51. -/
theorem takeEventsOpensReport : Obligations.TakeEventsOpensReport := by
  refine ⟨fun s hready => ?_, fun s e => ?_, rfl, fun s joined lost events hevents => ?_, State.attn_iff⟩
  · exact (State.commandRow_reported (u := s.handed.setLatches s.latches.openReport) hready rfl).trans rfl
  · simp [State.raise, State.setLatches, Latches.add]
  · subst hevents
    rfl

/-! ### STAGE and UNSTAGE -/

theorem stageCommand_badArg {channel index : Byte} {bytes : List Byte}
    (h : 8 ≤ channel.toNat ∨ 16 ≤ index.toNat ∨ decodeSet bytes = none) :
    stageCommand channel index bytes s = s.refuse .badArg := by
  unfold stageCommand
  split
  · next k i hk hi =>
    rcases h with h | h | h
    · rw [channelOf_of_le h] at hk; contradiction
    · rw [indexOf_of_le h] at hi; contradiction
    · simp only [h]
  · rfl

section
variable {channel index : Byte} {bytes : List Byte} {k : ChannelIndex} {i : EntryIndex} {c : ChannelSet}

theorem stageCommand_pending (hk : channelOf channel = some k) (hi : indexOf index = some i)
    (hc : decodeSet bytes = some c) (hpending : (s.entry i).pending = true) :
    stageCommand channel index bytes s = s.refuse .locked := by
  rcases (Entry.pending_iff _).mp hpending with h | h <;> simp only [stageCommand, hk, hi, hc, h]

theorem stageCommand_wrongState (hk : channelOf channel = some k) (hi : indexOf index = some i)
    (hc : decodeSet bytes = some c) (hstate : (s.entry i).state = .free ∨ (s.entry i).state = .done) :
    stageCommand channel index bytes s = s.refuse .wrongState := by
  rcases hstate with h | h <;> simp only [stageCommand, hk, hi, hc, h]

/-- The tests of R157 that a HELD entry is put to. -/
theorem stageCommand_held (hk : channelOf channel = some k) (hi : indexOf index = some i)
    (hc : decodeSet bytes = some c) (hheld : (s.entry i).state = .held) :
    stageCommand channel index bytes s =
      if hasChannel (s.entry i).record.channels k = false then s.refuse .badArg
      else if (s.channel k).isStaged i = false ∧ Config.stagedCapacity ≤ (s.channel k).staged.length then s.refuse .full
      else (s.setChannels (s.channels.set k ((s.channel k).stage i c))).accept := by
  simp only [stageCommand, hk, hi, hc, hheld]

end

theorem Channel.isStaged_eq_false_iff (c : Channel) (i : EntryIndex) : c.isStaged i = false ↔ ∀ p ∈ c.staged, p.tag ≠ i := by
  simp [Channel.isStaged]

/-- Settles O49. -/
theorem stageQueuesSet : Obligations.StageQueuesSet := by
  intro channel index bytes s hready
  have hrefused (code : ResultCode) (hcode : code ≠ .ok)
      (hrun : stageCommand channel index bytes s.handed = s.handed.refuse code) :
      exec (.stage channel index bytes) s = .next (s.refused .stage (channel :: index :: bytes) code) :=
    State.commandRow_refused hready hrun hcode
  refine ⟨fun h => hrefused _ (by decide) (stageCommand_badArg h), fun k i c hchannel hindex hc => ?_⟩
  have hk := channelOf_eq hchannel
  have hi := indexOf_eq hindex
  refine ⟨fun hpending => hrefused _ (by decide) (stageCommand_pending hk hi hc hpending),
    fun hstate => hrefused _ (by decide) (stageCommand_wrongState hk hi hc hstate), fun hheld hmask => hrefused _ (by decide) ?_,
    fun hheld hmask => ?_⟩
  · rw [stageCommand_held (s := s.handed) hk hi hc hheld]
    exact if_pos hmask
  have hmask' : ¬hasChannel (s.handed.entry i).record.channels k = false := by
    rw [Bool.not_eq_false]; exact hmask
  have hrun := stageCommand_held (s := s.handed) hk hi hc hheld
  rw [if_neg hmask'] at hrun
  have hstaged (h : (s.handed.channel k).isStaged i = true ∨ (s.channel k).staged.length < 4) :
      stageCommand channel index bytes s.handed =
        (s.handed.setChannels (s.channels.set k ((s.channel k).stage i c))).accept := by
    refine hrun.trans (if_neg fun ⟨hnew, hfull⟩ => ?_)
    exact h.elim (fun h => Bool.false_ne_true (hnew.symm.trans h)) fun h => absurd h (Nat.not_lt.mpr hfull)
  refine ⟨fun hnew hfull => hrefused _ (by decide) ?_, fun hold => ?_, fun hnew hroom => ?_⟩
  · exact hrun.trans (if_pos ⟨(Channel.isStaged_eq_false_iff _ i).mpr hnew, hfull⟩)
  · have hold' : (s.channel k).isStaged i = true := (Channel.isStaged_iff _ i).mpr hold
    have hqueue : (s.channel k).stage i c =
        { s.channel k with staged := (s.channel k).staged.map fun p => if p.tag = i then { p with set := c } else p } :=
      if_pos hold'
    have hdone := hstaged (.inl hold')
    rw [hqueue] at hdone
    refine ⟨_, (State.commandRow_accepted hready hdone).trans rfl, StagedPair.map_set_tag _ i c, fun p hp htag => ?_,
      fun p htag => ?_⟩
    · obtain ⟨q, _, rfl⟩ := List.mem_map.mp hp
      by_cases hq : q.tag = i
      · rw [if_pos hq]
      · rw [if_neg hq] at htag
        contradiction
    · rw [List.mem_map]
      constructor
      · rintro ⟨q, hq, rfl⟩
        by_cases hqi : q.tag = i
        · rw [if_pos hqi] at htag
          contradiction
        · rwa [if_neg hqi]
      · exact fun hp => ⟨p, hp, if_neg htag⟩
  · have hqueue : (s.channel k).stage i c =
        { s.channel k with staged := (s.channel k).staged ++ [{ tag := i, set := c }] } :=
      if_neg (by simpa using (Channel.isStaged_eq_false_iff _ i).mpr hnew)
    have hdone := hstaged (.inr hroom)
    rw [hqueue] at hdone
    exact (State.commandRow_accepted hready hdone).trans rfl

/-- Settles O50. -/
theorem unstageRemovesPair : Obligations.UnstageRemovesPair := by
  intro channel index s hready
  have hrefused (code : ResultCode) (hcode : code ≠ .ok)
      (hrun : unstageCommand channel index s.handed = s.handed.refuse code) :
      exec (.unstage channel index) s = .next (s.refused .unstage [channel, index] code) :=
    State.commandRow_refused hready hrun hcode
  refine ⟨fun h => hrefused _ (by decide) ?_, fun k i hchannel hindex => ?_⟩
  · unfold unstageCommand
    split
    · next k i hk hi =>
      rcases h with h | h
      · rw [channelOf_of_le h] at hk; contradiction
      · rw [indexOf_of_le h] at hi; contradiction
    · rfl
  have hrun : unstageCommand channel index s.handed =
      if (s.channel k).isStaged i = false then s.handed.refuse .empty
      else if (s.entry i).pending = true then s.handed.refuse .locked
      else (s.handed.setChannels (s.channels.set k ((s.channel k).discard i))).accept := by
    simp only [unstageCommand, channelOf_eq hchannel, indexOf_eq hindex]
    rfl
  refine ⟨fun hnone => hrefused _ (by decide) (hrun.trans (if_pos ((Channel.isStaged_eq_false_iff _ i).mpr hnone))),
    fun hold => ?_⟩
  have hold' : ¬(s.channel k).isStaged i = false := by
    rw [Bool.not_eq_false]; exact (Channel.isStaged_iff _ i).mpr hold
  rw [if_neg hold'] at hrun
  refine ⟨fun hpending => hrefused _ (by decide) ?_, fun harmed hcomplete => ?_⟩
  · exact hrun.trans (if_pos ((Entry.pending_iff _).mpr hpending))
  · have hopen : ¬(s.entry i).pending = true := fun h => ((Entry.pending_iff _).mp h).elim harmed hcomplete
    rw [if_neg hopen] at hrun
    exact (State.commandRow_accepted hready hrun).trans rfl

end Sys2Proof.Machine
end

section
/-!
PROOFS about the reading commands: every byte of the data of READ STATUS, READ COUNTERS, READ ENTRY and READ CHANNEL
(Tables 52 to 55).
-/

namespace Sys2Proof.Machine

-- One lemma after another: side by side, the evaluations of `decide` would each hold a thread.
set_option Elab.async false

variable {s t u : State}

/-! ### Sets of stations -/

theorem hasStation_or (a b : StationSet) (k : Station) : hasStation (a ||| b) k = (hasStation a k || hasStation b k) :=
  BitVec.getLsbD_or

theorem hasStation_stationBit (j k : Station) : hasStation (stationBit j) k = decide (k = j) := by
  revert j k
  decide

/-- The set of those members of a list that pass a test. -/
theorem hasStation_foldl (p : Station → Bool) (l : List Station) (set : StationSet) (k : Station) :
    hasStation (l.foldl (fun set j => if p j = true then set ||| stationBit j else set) set) k =
      (hasStation set k || (decide (k ∈ l) && p k)) := by
  induction l generalizing set with
  | nil => simp
  | cons j l ih =>
    rw [List.foldl_cons, ih]
    by_cases hk : k = j
    · subst hk
      by_cases hp : p k = true
      · simp [hp, hasStation_or, hasStation_stationBit]
      · simp [hp]
    · by_cases hp : p j = true
      · simp [hp, hk, hasStation_or, hasStation_stationBit]
      · simp [hp, hk]

theorem State.hasStation_presentSet (s : State) (k : Station) :
    hasStation s.presentSet k = true ↔ k.val < s.settings.size ∧ k ≠ s.timer.station ∧ (s.peer k).present = true := by
  have h := hasStation_foldl (fun k => s.peerInUse k && (s.peer k).present) allSixteen 0#16 k
  rw [State.presentSet, h]
  simp [State.peerInUse, hasStation, and_assoc]

/-! ### READ ENTRY -/

/-- The data of READ ENTRY by what they report: membership in the queue, carriage and the entry (Table 54). -/
def entryData (queued carried : Bool) (e : Entry) : List Byte :=
  [bitOf queued ++ bitOf carried ++ bitOf e.arrived ++ bitOf e.late ++ bitOf e.chainTaken ++ e.state.code,
   bitOf e.armRound.isSome ++ bitOf e.ownAnnounce.isSome ++ bitOf e.recordedLead.isSome ++ bitOf e.fireRound.isSome ++
      bitOf e.actualFire.isSome ++ 0#3] ++
    (encodeRecord e.record ++
      ([(e.armRound.getD 0#16).extractLsb' 8 8, (e.armRound.getD 0#16).extractLsb' 0 8,
        (e.ownAnnounce.getD 0#16).extractLsb' 8 8, (e.ownAnnounce.getD 0#16).extractLsb' 0 8,
        (e.fireRound.getD 0#16).extractLsb' 8 8, (e.fireRound.getD 0#16).extractLsb' 0 8,
        (e.actualFire.getD 0#16).extractLsb' 8 8, (e.actualFire.getD 0#16).extractLsb' 0 8,
        0#4 ++ e.recordedLead.getD 0#4, e.channelCount, outcomeCode e.outcome ++ reasonCode e.reason, e.superseded,
        e.recordSet.extractLsb' 8 8, e.recordSet.extractLsb' 0 8] ++
        allSixteen.flatMap fun k => roundBytes e.records[k]))

theorem State.entryBytes_eq (s : State) (i : EntryIndex) :
    s.entryBytes i = entryData (s.frames.announce.all.contains i) (s.inCarriage i) (s.entry i) := by
  simp only [State.entryBytes, entryData, roundBytes, bytes16, List.append_assoc, List.cons_append, List.nil_append]

theorem encodeCondition_length (c : ArrivalCondition) : (encodeCondition c).length = 2 := by
  cases c <;> rfl

theorem encodeRecord_length (r : LoadedRecord) : (encodeRecord r).length = 12 := by
  simp [encodeRecord, encodeCondition_length, bytes16]

theorem length_flatMap_of_length {α β : Type} {f : α → List β} {n : Nat} (h : ∀ a, (f a).length = n) (l : List α) :
    (l.flatMap f).length = n * l.length := by
  induction l with
  | nil => rfl
  | cons a l ih => rw [List.flatMap_cons, List.length_append, h, ih, List.length_cons, Nat.mul_succ, Nat.add_comm]

/-- The two bytes of the arrival record at a place of a row of stations. -/
theorem roundBytes_flatMap_getElem? (f : Station → Option Round) (l : List Station) {i : Nat} {k : Station}
    (h : l[i]? = some k) :
    (l.flatMap fun k => roundBytes (f k))[2 * i]? = some (((f k).getD 0#16).extractLsb' 8 8) ∧
      (l.flatMap fun k => roundBytes (f k))[2 * i + 1]? = some (((f k).getD 0#16).extractLsb' 0 8) := by
  induction l generalizing i with
  | nil => cases h
  | cons a l ih =>
    cases i with
    | zero =>
      obtain rfl := Option.some.inj h
      exact ⟨rfl, rfl⟩
    | succ i => exact ih h

/-- The two bytes of each station's arrival record (Table 54). -/
theorem roundBytes_flatMap (f : Station → Option Round) :
    (allSixteen.flatMap fun k => roundBytes (f k)).length = 32 ∧ ∀ k : Station,
      (allSixteen.flatMap fun k => roundBytes (f k))[2 * k.val]? = some (((f k).getD 0#16).extractLsb' 8 8) ∧
      (allSixteen.flatMap fun k => roundBytes (f k))[2 * k.val + 1]? = some (((f k).getD 0#16).extractLsb' 0 8) :=
  ⟨rfl, fun k => roundBytes_flatMap_getElem? f allSixteen (by revert k; decide)⟩

theorem Entry.hasStation_recordSet (e : Entry) (k : Station) : hasStation e.recordSet k = e.records[k].isSome := by
  have h := hasStation_foldl (fun k => e.records[k].isSome) allSixteen 0#16 k
  rw [Entry.recordSet, h]
  simp [hasStation]

theorem entryData_blank : entryData false false Entry.blank = List.replicate 60 0#8 := by decide

/-- Behind two bytes stand the record, fourteen bytes and the arrival records (Table 54). -/
theorem entryData_parts (queued carried : Bool) (e : Entry) :
    (entryData queued carried e).length = 60 ∧
      ((entryData queued carried e).drop 2).take 12 = encodeRecord e.record ∧
      ((entryData queued carried e).drop 14).take 14 =
        [(e.armRound.getD 0#16).extractLsb' 8 8, (e.armRound.getD 0#16).extractLsb' 0 8,
          (e.ownAnnounce.getD 0#16).extractLsb' 8 8, (e.ownAnnounce.getD 0#16).extractLsb' 0 8,
          (e.fireRound.getD 0#16).extractLsb' 8 8, (e.fireRound.getD 0#16).extractLsb' 0 8,
          (e.actualFire.getD 0#16).extractLsb' 8 8, (e.actualFire.getD 0#16).extractLsb' 0 8,
          0#4 ++ e.recordedLead.getD 0#4, e.channelCount, outcomeCode e.outcome ++ reasonCode e.reason, e.superseded,
          e.recordSet.extractLsb' 8 8, e.recordSet.extractLsb' 0 8] ∧
      (entryData queued carried e).drop 28 = allSixteen.flatMap fun k => roundBytes e.records[k] := by
  have hfirst : (entryData queued carried e).drop 2 = _ := List.drop_left' (i := 2) rfl
  have hbehind := congrArg (List.drop 12) hfirst
  rw [List.drop_drop, List.drop_left' (encodeRecord_length e.record)] at hbehind
  refine ⟨?_, List.take_left' (encodeRecord_length e.record), congrArg (List.take 14) hbehind, ?_⟩
  · rw [entryData, List.length_append, List.length_append, List.length_append, encodeRecord_length,
      (roundBytes_flatMap fun k => e.records[k]).1]
    rfl
  · have hrest := congrArg (List.drop 14) hbehind
    rw [List.drop_drop] at hrest
    exact hrest

/-! ### READ CHANNEL -/

theorem encodeSet_length (c : ChannelSet) : (encodeSet c).length = 11 := rfl

/-- The bytes of one staged slot (Table 55). -/
def slotBytes (p : StagedPair) : List Byte := BitVec.ofNat 8 p.tag.val :: encodeSet p.set

theorem stagedSlots_eq (pairs : List StagedPair) :
    stagedSlots pairs = (pairs.flatMap slotBytes ++ List.replicate 48 0#8).take 48 := by
  simp only [stagedSlots, byte_of_index]
  rfl

theorem stagedSlots_length (pairs : List StagedPair) : (stagedSlots pairs).length = 48 := by
  simp [stagedSlots_eq]

/-- Each slot of a list of slots of twelve bytes stands at its place. -/
theorem slots_drop (pairs : List StagedPair) (z : List Byte) (n : Nat) (hn : n ≤ pairs.length) :
    (pairs.flatMap slotBytes ++ z).drop (12 * n) = (pairs.drop n).flatMap slotBytes ++ z := by
  induction pairs generalizing n with
  | nil => simp_all
  | cons p pairs ih =>
    cases n with
    | zero => rfl
    | succ n =>
      rw [List.flatMap_cons, List.append_assoc, Nat.mul_succ, Nat.add_comm, ← List.drop_drop]
      have hfirst : (slotBytes p ++ (pairs.flatMap slotBytes ++ z)).drop 12 = pairs.flatMap slotBytes ++ z :=
        List.drop_left' rfl
      rw [hfirst, ih n (Nat.le_of_succ_le_succ hn), List.drop_succ_cons]

/-- The n-th of four slots is that of the n-th pair, or reads 0 where there is none (R195). -/
theorem stagedSlots_slot (pairs : List StagedPair) (n : Nat) (hn : n < 4) :
    ((stagedSlots pairs).drop (12 * n)).take 12 = ((pairs[n]?).map slotBytes).getD (List.replicate 12 0#8) := by
  have htake : ((stagedSlots pairs).drop (12 * n)).take 12 =
      ((pairs.flatMap slotBytes ++ List.replicate 48 0#8).drop (12 * n)).take 12 := by
    rw [stagedSlots_eq, List.drop_take, List.take_take]
    congr 1
    omega
  rw [htake]
  by_cases h : n < pairs.length
  · rw [slots_drop _ _ _ (Nat.le_of_lt h), List.drop_eq_getElem_cons h, List.flatMap_cons, List.append_assoc,
      List.getElem?_eq_getElem h]
    exact List.take_left' rfl
  · have hlength : (pairs.flatMap slotBytes).length = 12 * pairs.length :=
      length_flatMap_of_length (f := slotBytes) (n := 12) (fun _ => rfl) pairs
    have hnone : pairs[n]? = none := List.getElem?_eq_none (Nat.le_of_not_lt h)
    rw [hnone, List.drop_append, List.drop_eq_nil_of_le (by omega), List.nil_append, List.drop_replicate, List.take_replicate,
      hlength]
    have hroom : min 12 (48 - (12 * n - 12 * pairs.length)) = 12 := by omega
    rw [hroom]
    rfl

/-- The byte of a place or of a count (Table 55). -/
theorem extractLsb'_ofNat24 (n : Nat) :
    (BitVec.ofNat 24 n).extractLsb' 16 8 = BitVec.ofNat 8 (n / 65536) ∧
      (BitVec.ofNat 24 n).extractLsb' 8 8 = BitVec.ofNat 8 (n / 256) ∧
      (BitVec.ofNat 24 n).extractLsb' 0 8 = BitVec.ofNat 8 n := by
  refine ⟨BitVec.eq_of_toNat_eq ?_, BitVec.eq_of_toNat_eq ?_, BitVec.eq_of_toNat_eq ?_⟩
  · simp [BitVec.extractLsb'_toNat, Nat.shiftRight_eq_div_pow]; omega
  · simp [BitVec.extractLsb'_toNat, Nat.shiftRight_eq_div_pow]; omega
  · simp [BitVec.extractLsb'_toNat]

theorem extractLsb'_ofNat16 (n : Nat) :
    (BitVec.ofNat 16 n).extractLsb' 8 8 = BitVec.ofNat 8 (n / 256) ∧
      (BitVec.ofNat 16 n).extractLsb' 0 8 = BitVec.ofNat 8 n := by
  refine ⟨BitVec.eq_of_toNat_eq ?_, BitVec.eq_of_toNat_eq ?_⟩
  · simp [BitVec.extractLsb'_toNat, Nat.shiftRight_eq_div_pow]; omega
  · simp [BitVec.extractLsb'_toNat]

theorem Channel.place_eq (c : Channel) :
    c.place = if c.run = .waiting then c.phaseRemaining else if c.run = .running then c.position else 0 := by
  cases h : c.run <;> simp [Channel.place, h]

/-- The active set, eight bytes and the four staged slots (Table 55). -/
theorem Channel.toBytes_parts (c : Channel) :
    c.toBytes.length = 67 ∧ c.toBytes.take 11 = encodeSet c.active ∧
      (c.toBytes.drop 11).take 8 =
        [c.run.code ++ bitOf c.forced ++ bitOf c.pin ++ 0#1 ++ BitVec.ofNat 3 c.staged.length,
         BitVec.ofNat 8 (c.place / 65536), BitVec.ofNat 8 (c.place / 256), BitVec.ofNat 8 c.place,
         BitVec.ofNat 8 (c.periodsRemaining / 256), BitVec.ofNat 8 c.periodsRemaining, c.periodEnds.extractLsb' 8 8,
         c.periodEnds.extractLsb' 0 8] ∧
      c.toBytes.drop 19 = stagedSlots c.staged := by
  obtain ⟨hplace2, hplace1, hplace0⟩ := extractLsb'_ofNat24 c.place
  obtain ⟨hcount1, hcount0⟩ := extractLsb'_ofNat16 c.periodsRemaining
  have hbytes : c.toBytes = encodeSet c.active ++
      ([c.run.code ++ bitOf c.forced ++ bitOf c.pin ++ 0#1 ++ BitVec.ofNat 3 c.staged.length,
         BitVec.ofNat 8 (c.place / 65536), BitVec.ofNat 8 (c.place / 256), BitVec.ofNat 8 c.place,
         BitVec.ofNat 8 (c.periodsRemaining / 256), BitVec.ofNat 8 c.periodsRemaining, c.periodEnds.extractLsb' 8 8,
         c.periodEnds.extractLsb' 0 8] ++ stagedSlots c.staged) := by
    simp only [Channel.toBytes, bytes24, bytes16, hplace2, hplace1, hplace0, hcount1, hcount0, List.append_assoc,
      List.cons_append, List.nil_append]
  rw [hbytes]
  refine ⟨?_, rfl, rfl, rfl⟩
  rw [List.length_append, List.length_append, stagedSlots_length]
  rfl

/-- Settles O48. -/
theorem readsChangeNothing : Obligations.ReadsChangeNothing := by
  refine ⟨rfl, rfl, rfl, rfl, rfl, fun s hready high low hhigh hlow => ?_⟩
  subst hhigh hlow
  refine ⟨?_, fun k => s.hasStation_presentSet k, State.commandRow_read hready rfl, fun index hbig => ?_,
    fun index i e hi he => ?_, fun channel hbig => ?_, fun channel k c place hk hc hplace => ?_⟩
  · refine State.commandRow_read hready (congrArg (State.report _) ?_)
    have hstation : (0#4 ++ (BitVec.ofFin s.handed.timer.station : BitVec 4) : Byte) = _ := byte_of_index s.timer.station
    rw [State.statusBytes, hstation]
    rfl
  · refine State.commandRow_refused hready ?_
    simp only [readEntryCommand, indexOf_of_le hbig]
  · subst he
    have hrun : readEntryCommand index s.handed = s.handed.report (s.entryBytes i) := by
      simp only [readEntryCommand, indexOf_eq hi]
      rfl
    have hqueued : s.frames.announce.all.contains i =
        decide (i ∈ s.frames.announce.uncarried ++ s.frames.announce.carried) := List.contains_eq_mem _ _
    have hcarried : s.inCarriage i = decide (∃ f ∈ s.frames.assembled, i ∈ f.carriage) :=
      Bool.eq_iff_iff.mpr ((s.inCarriage_iff i).trans decide_eq_true_iff.symm)
    obtain ⟨hlength, hrecord, hmiddle, hrecords⟩ :=
      entryData_parts (s.frames.announce.all.contains i) (s.inCarriage i) (s.entry i)
    rw [← State.entryBytes_eq] at hlength hrecord hmiddle hrecords
    refine ⟨_, (s.entry i).recordSet, State.commandRow_read hready hrun, hlength, ?_, hrecord, hmiddle, fun k => ?_,
      fun hblank hout hnone => ?_⟩
    · rw [← hqueued, ← hcarried]
      rfl
    · obtain ⟨hhigh, hlow⟩ := (roundBytes_flatMap fun k => (s.entry i).records[k]).2 k
      rw [← hrecords, List.getElem?_drop] at hhigh hlow
      exact ⟨(s.entry i).hasStation_recordSet k, hhigh, by rw [← hlow]; congr 1; omega⟩
    · have hfree : s.inCarriage i = false := by
        rw [hcarried]
        exact decide_eq_false fun ⟨f, hf, hi⟩ => hnone f hf hi
      have habsent : s.frames.announce.all.contains i = false := by simpa using hout
      rw [State.entryBytes_eq, hblank, habsent, hfree, entryData_blank]
  · refine State.commandRow_refused hready ?_
    simp only [readChannelCommand, channelOf_of_le hbig]
  · subst hc
    have hrun : readChannelCommand channel s.handed = s.handed.report (s.channel k).toBytes := by
      simp only [readChannelCommand, channelOf_eq hk]
      rfl
    rw [← Channel.place_eq] at hplace
    obtain ⟨hlength, hactive, hmiddle, hslots⟩ := (s.channel k).toBytes_parts
    refine ⟨_, State.commandRow_read hready hrun, hlength, hactive, ?_, fun n hn => ?_⟩
    · rw [hmiddle, hplace]
    · rw [← List.drop_drop, hslots, stagedSlots_slot _ _ hn]
      exact ⟨fun p hp => by rw [hp]; rfl, fun hnone => by rw [hnone]; rfl⟩

end Sys2Proof.Machine
end

section
/-!
PROOFS about the bits of a transaction: a command clocked in bit by bit is its row (R178 to R180), and the response is read out
bit by bit (R181).
-/

namespace Sys2Proof.Machine

-- One lemma after another: side by side, the evaluations of `decide` would each hold a thread.
set_option Elab.async false

variable {s t u : State}

/-! ### Sequences of commands -/

theorem runCommands_append {l m : List Instr} (h : runCommands l s = .next t) :
    runCommands (l ++ m) s = runCommands m t := by
  induction l generalizing s with
  | nil =>
    obtain rfl := Host.Outcome.next.inj h
    rfl
  | cons i l ih =>
    obtain ⟨u, hu⟩ := exec_next i s
    rw [runCommands, hu] at h
    rw [List.cons_append, runCommands, hu]
    exact ih h

theorem runCommands_single {i : Instr} (h : exec i s = .next t) : runCommands [i] s = .next t := by
  rw [runCommands, h]
  rfl

/-! ### The bits of a byte -/

/-- Bits that do not complete a byte join the shift register (R178). -/
theorem runCommands_bits (v : List Bool) (hrunning : s.resetHeld = false)
    (hstate : s.port.state = .command ∨ s.port.state = .arguments) (hclosed : s.port.closedNow = [])
    (hv : s.port.bits + v.length < 8) :
    runCommands (v.map .pckRisingEdge) s =
      .next (s.setPort { s.port with bits := s.port.bits + v.length, shift := v.foldl shiftIn s.port.shift }) := by
  induction v generalizing s with
  | nil => rfl
  | cons x v ih =>
    rw [List.length_cons] at hv
    rw [List.map_cons, runCommands, exec_pckRisingEdge hrunning, State.clockPort_bit hstate (by omega)]
    have hroom : (s.port.bits + 1) + v.length < 8 := by omega
    refine (ih (s := s.setPort { s.port with bits := s.port.bits + 1, shift := shiftIn s.port.shift x, closedNow := [] })
      hrunning hstate rfl hroom).trans ?_
    rw [List.length_cons, List.foldl_cons]
    simp only [hclosed, State.setPort, Nat.add_assoc, Nat.add_comm 1]

/-- The byte that the bits of a byte make is that byte (R193). -/
theorem foldl_shiftIn_byteBits (b : Byte) : (byteBits b).foldl shiftIn 0#8 = b := by
  revert b
  decide

theorem byteBits_split (b : Byte) : ∃ (v : List Bool) (x : Bool), byteBits b = v ++ [x] ∧ v.length = 7 :=
  ⟨[bit b 7, bit b 6, bit b 5, bit b 4, bit b 3, bit b 2, bit b 1], bit b 0, rfl, rfl⟩

/-- A byte is clocked in: its eighth bit completes it (R178). The block that takes the byte finds seven bits taken. -/
theorem runCommands_byte (b : Byte) {received : State → Byte → State} (hrunning : s.resetHeld = false)
    (hreceived : (s.port.state = .command ∧ received = State.commandReceived) ∨
      (s.port.state = .arguments ∧ received = State.argumentReceived))
    (hbits : s.port.bits = 0) (hshift : s.port.shift = 0#8) (hclosed : s.port.closedNow = []) :
    ∃ v : Byte, runCommands ((byteBits b).map .pckRisingEdge) s =
      .next (received (s.setPort { s.port with bits := 7, shift := v }) b) := by
  obtain ⟨v, x, hsplit, hlength⟩ := byteBits_split b
  have hstate : s.port.state = .command ∨ s.port.state = .arguments := hreceived.imp (·.1) (·.1)
  have hseven := runCommands_bits v hrunning hstate hclosed (by omega)
  rw [hbits, hlength, hshift] at hseven
  have hbyte : shiftIn (v.foldl shiftIn 0#8) x = b := by
    rw [← foldl_shiftIn_byteBits b, hsplit, List.foldl_append]
    rfl
  refine ⟨v.foldl shiftIn 0#8, ?_⟩
  rw [hsplit, List.map_append, runCommands_append hseven]
  have hedge (p : Port) : exec (.pckRisingEdge x) (s.setPort p) = .next ((s.setPort p).clockPort x) :=
    exec_pckRisingEdge (s := s.setPort p) hrunning x
  refine runCommands_single ((hedge _).trans (congrArg _ ?_))
  rcases hreceived with ⟨h, rfl⟩ | ⟨h, rfl⟩ <;> simp [State.clockPort, State.takeBit, h, hbyte]

/-! ### The bytes of a command -/

/-- The row of a port command is its command with its argument bytes (Table 42). -/
theorem exec_portRow {i : Instr} {c : PortCommand} {args : List Byte} (h : i.portRow = some (c, args)) :
    exec i s = s.commandRow c args (runCommand c args) := by
  cases i with
  | _ => cases h <;> rfl

theorem argumentCount {i : Instr} {c : PortCommand} {args : List Byte} (h : i.portRow = some (c, args))
    (hi : i.wellFormed = true) : args.length = c.argBytes := by
  cases i with
  | configure args => exact Laws.ArgumentCount.configure _ _ _ h hi
  | load index record => exact Laws.ArgumentCount.load _ _ _ _ h hi
  | stage channel index set => exact Laws.ArgumentCount.stage _ _ _ _ _ h hi
  | _ => cases h <;> rfl

/-- The port in ARGUMENTS behind some argument bytes of a command (R179). -/
def State.collecting (s : State) (c : PortCommand) (args : List Byte) : State :=
  s.setPort { Port.idle with state := .arguments, command := some c.byte, args := args, needed := c.argBytes }

/-- The command event that the last byte of a command is (R180). -/
def State.commandEvent (s : State) (c : PortCommand) (args : List Byte) : State :=
  ((s.setPort Port.idle).handCommand (runCommand c args)).finish c args

theorem clockedBytes_cons (b : Byte) (l : List Byte) :
    clockedBytes (b :: l) = (byteBits b).map .pckRisingEdge ++ clockedBytes l := by
  simp [clockedBytes]

/-- The argument bytes that are left, at least one, are clocked in; the last is the command event (R179, R180). -/
theorem runCommands_arguments (hrunning : s.resetHeld = false) (c : PortCommand) (b : Byte) (l args : List Byte)
    (hl : args.length + (l.length + 1) = c.argBytes) :
    runCommands (clockedBytes (b :: l)) (s.collecting c args) = .next (s.commandEvent c (args ++ b :: l)) := by
  induction l generalizing b args with
  | nil =>
    obtain ⟨v, hbyte⟩ := runCommands_byte (s := s.collecting c args) b hrunning (.inr ⟨rfl, rfl⟩) rfl rfl rfl
    rw [clockedBytes_cons, runCommands_append hbyte]
    have hlast : ¬args.length + 1 < c.argBytes := by simp at hl; omega
    simp [clockedBytes, runCommands, State.argumentReceived, State.collecting, State.commandEvent, State.handCommand,
      State.setPort, commandOf_byte, hlast, Port.idle]
  | cons b' l ih =>
    obtain ⟨v, hbyte⟩ := runCommands_byte (s := s.collecting c args) b hrunning (.inr ⟨rfl, rfl⟩) rfl rfl rfl
    rw [clockedBytes_cons, runCommands_append hbyte]
    have hmore := ih b' (args ++ [b]) (by simp at hl ⊢; omega)
    rw [List.append_assoc, List.singleton_append] at hmore
    rw [← hmore]
    have hfirst : args.length + 1 < c.argBytes := by simp at hl; omega
    refine congrArg _ ?_
    simp [State.argumentReceived, State.collecting, State.setPort, hfirst, Port.idle]

/-- Settles O37: bit by bit, byte by byte, and at the last byte of the command its event. -/
theorem clockedCommandIsItsRow : Obligations.ClockedCommandIsItsRow := by
  intro i c args s hwell hrow hrunning hport
  have hcount := argumentCount hrow hwell
  have hclosed : s.port.closedNow = [] := by rw [hport]; rfl
  have hevent : exec i s = .next (s.commandEvent c args) := by
    rw [exec_portRow hrow, s.commandRow_ready c args _ hrunning (by rw [hport]; rfl), hclosed]
    rfl
  rw [hevent]
  obtain ⟨v, hbyte⟩ := runCommands_byte (s := s) c.byte hrunning (.inl ⟨by rw [hport], rfl⟩) (by rw [hport]; rfl)
    (by rw [hport]; rfl) hclosed
  rw [clockedBytes_cons, runCommands_append hbyte, State.commandReceived, commandOf_byte]
  cases args with
  | nil =>
    have hnone : c.argBytes = 0 := hcount.symm
    simp only [hnone, if_true, State.setPort_port, hclosed]
    rfl
  | cons b l =>
    have hsome : c.argBytes ≠ 0 := fun h => by simp [h] at hcount
    have hrest := runCommands_arguments hrunning c b l [] (by simpa [Nat.add_comm] using hcount)
    rw [List.nil_append] at hrest
    rw [← hrest]
    simp only [hsome, if_false, State.collecting, hport]
    rfl

/-! ### The response -/

theorem runCommands_concat {l : List Instr} {i : Instr} (h : runCommands l s = .next t) :
    runCommands (l ++ [i]) s = exec i t := by
  obtain ⟨u, hu⟩ := exec_next i t
  rw [runCommands_append h, hu]
  exact runCommands_single hu

theorem State.clockPort_response (h : s.port.state = .response) (hmore : s.port.shifted + 1 < s.port.snapshotBits)
    (pdi : Bool) :
    s.clockPort pdi = s.setPort { s.port with shifted := s.port.shifted + 1, bits := (s.port.bits + 1) % 8 } := by
  simp [State.clockPort, h, hmore]

theorem State.clockPort_response_last (h : s.port.state = .response) (hlast : s.port.snapshotBits ≤ s.port.shifted + 1)
    (pdi : Bool) :
    s.clockPort pdi = s.setPort { s.port with state := .trailing, shifted := s.port.shifted + 1, bits := 0 } := by
  simp [State.clockPort, h, Nat.not_lt.mpr hlast]

/-- The port m edges behind the command event, with a response of n bits (R181). -/
def Port.readOut (p : Port) (n m : Nat) : Port :=
  if m < 8 then { p with bits := m }
  else if m < 8 + n then { p with state := .response, bits := (m - 8) % 8, shifted := m - 8 }
  else { p with state := .trailing, bits := 0, shifted := n }

/-- One edge more (R178, R181). -/
theorem State.clockPort_readOut {p : Port} {n : Nat} (hturn : p.state = .turnaround)
    (hshifted : p.shifted = 0) (hn : p.snapshotBits = n) (hpos : 0 < n) (m : Nat) (pdi : Bool) :
    (s.setPort (p.readOut n m)).clockPort pdi = s.setPort (p.readOut n (m + 1)) := by
  have hresponse (q : Port) (hq : q.snapshot = p.snapshot) : q.snapshotBits = n := by
    rw [← hn, Port.snapshotBits, hq]; rfl
  by_cases hfirst : m < 7
  · rw [Port.readOut, if_pos (by omega), Port.readOut, if_pos (by omega)]
    exact State.clockPort_turnaround hturn hfirst pdi
  · by_cases hlast : m = 7
    · subst hlast
      rw [Port.readOut, if_pos (by omega), Port.readOut, if_neg (by omega), if_pos (by omega)]
      rw [State.clockPort_turnaround_last hturn rfl]
      simp [hshifted, State.setPort]
    · by_cases hmore : m < 8 + n
      · have hq := hresponse { p with state := .response, bits := (m - 8) % 8, shifted := m - 8 } rfl
        rw [Port.readOut, if_neg (by omega), if_pos hmore]
        by_cases hnext : m + 1 < 8 + n
        · have hroom : m - 8 + 1 < Port.snapshotBits _ := hq.symm ▸ (by omega : m - 8 + 1 < n)
          have hbit : ((m - 8) % 8 + 1) % 8 = (m + 1 - 8) % 8 := by omega
          have hshift : m - 8 + 1 = m + 1 - 8 := by omega
          rw [Port.readOut, if_neg (by omega), if_pos hnext]
          rw [State.clockPort_response rfl hroom, ← hbit, ← hshift]
          rfl
        · have hfull : Port.snapshotBits _ ≤ m - 8 + 1 := hq.symm ▸ (by omega : n ≤ m - 8 + 1)
          have hshift : m - 8 + 1 = n := by omega
          rw [Port.readOut, if_neg (by omega), if_neg hnext]
          rw [State.clockPort_response_last rfl hfull, ← hshift]
          rfl
      · rw [Port.readOut, if_neg (by omega), if_neg hmore, Port.readOut, if_neg (by omega), if_neg (by omega)]
        rfl

theorem runCommands_readOut {n : Nat} (hrunning : s.resetHeld = false) (hturn : s.port.state = .turnaround)
    (hbits : s.port.bits = 0) (hshifted : s.port.shifted = 0) (hn : s.port.snapshotBits = n) (hpos : 0 < n)
    (pdi : List Bool) :
    runCommands (pdi.map .pckRisingEdge) s = .next (s.setPort (s.port.readOut n pdi.length)) := by
  obtain ⟨l, rfl⟩ : ∃ l, pdi = List.reverse l := ⟨pdi.reverse, pdi.reverse_reverse.symm⟩
  induction l with
  | nil =>
    have hstart : s.port.readOut n 0 = s.port := by
      rw [Port.readOut, if_pos (by decide), ← hbits]
    rw [List.reverse_nil, List.length_nil, hstart]
    rfl
  | cons x l ih =>
    have hedge (p : Port) : exec (.pckRisingEdge x) (s.setPort p) = .next ((s.setPort p).clockPort x) :=
      exec_pckRisingEdge (s := s.setPort p) hrunning x
    rw [List.reverse_cons, List.map_append, List.length_append, List.length_singleton,
      ← State.clockPort_readOut hturn hshifted hn hpos _ x, ← hedge]
    exact runCommands_concat ih

/-- The n-th bit of some bytes, most significant first, lies in byte n / 8 (R178). -/
theorem flatMap_byteBits_getElem? (bytes : List Byte) (n : Nat) (hn : n < 8 * bytes.length) :
    (bytes.flatMap byteBits)[n]? = some (bit (bytes.getD (n / 8) 0#8) (7 - n % 8)) := by
  induction bytes generalizing n with
  | nil => simp at hn
  | cons b bytes ih =>
    rw [List.flatMap_cons]
    by_cases hfirst : n < 8
    · rw [List.getElem?_append_left hfirst]
      have hcases : n = 0 ∨ n = 1 ∨ n = 2 ∨ n = 3 ∨ n = 4 ∨ n = 5 ∨ n = 6 ∨ n = 7 := by omega
      rcases hcases with rfl | rfl | rfl | rfl | rfl | rfl | rfl | rfl <;> rfl
    · have hrest : n = n - 8 + 8 := by omega
      have hdiv : n / 8 = (n - 8) / 8 + 1 := by omega
      have hmod : n % 8 = (n - 8) % 8 := by omega
      rw [List.length_cons] at hn
      have hskip : (byteBits b).length ≤ n := Nat.le_of_not_lt hfirst
      rw [List.getElem?_append_right hskip, hdiv, hmod]
      exact ih (n - 8) (by omega)

/-- Settles O38. -/
theorem responseIsShiftedOut : Obligations.ResponseIsShiftedOut := by
  refine ⟨fun s => ⟨fun h => ?_, fun hrunning h => ?_⟩, fun s bytes pdi hrunning hne hturn hbits hshifted hsnapshot => ?_⟩
  · rcases h with h | h | h <;> simp [State.pdo, h]
  · rcases h with h | h | h | h <;> simp [State.pdo, h, hrunning]
  have hn : s.port.snapshotBits = 8 * bytes.length := by rw [Port.snapshotBits, hsnapshot]; rfl
  have hpos : 0 < 8 * bytes.length := by
    have := List.length_pos_iff.mpr hne
    omega
  have hrun := runCommands_readOut hrunning hturn hbits hshifted hn hpos pdi
  refine ⟨fun hfirst hmore => ⟨_, hrun, rfl, ?_, ?_, ?_⟩, fun hlast => ⟨_, hrun, rfl, ?_, ?_, ?_, ?_⟩⟩
  · rw [State.setPort_port, Port.readOut, if_neg (by omega), if_pos hmore]
  · rw [State.setPort_port, Port.readOut, if_neg (by omega), if_pos hmore]
  · rw [Port.readOut, if_neg (by omega), if_pos hmore, flatMap_byteBits_getElem? bytes _ (by omega)]
    simp [State.pdo, hrunning, hsnapshot]
  · rw [State.setPort_port, Port.readOut, if_neg (by omega), if_neg (by omega)]
  · rw [State.setPort_port, Port.readOut, if_neg (by omega), if_neg (by omega)]
  · rw [State.setPort_port, Port.readOut, if_neg (by omega), if_neg (by omega)]
    exact hsnapshot
  · rw [Port.readOut, if_neg (by omega), if_neg (by omega)]
    simp [State.pdo, hrunning]

end Sys2Proof.Machine
end

section
/-!
PROOFS about the station's own time: which events are due, what an idle step takes, and what one beat does (log entry 1).
-/

namespace Sys2Proof.Machine

-- One lemma after another: side by side, the evaluations of `decide` would each hold a thread.
set_option Elab.async false

variable {s t u : State}

/-! ### The length of a frame on the line -/

theorem lineBeats_length (bytes : List Byte) : (lineBeats bytes).length = 16 + 8 * bytes.length := by
  have hbits : (bytes.flatMap byteBits).length = 8 * bytes.length :=
    length_flatMap_of_length (f := byteBits) (fun _ => rfl) bytes
  rw [lineBeats, List.length_map, List.length_append, hbits]
  rfl

theorem encodeFrame_length (f : Frame) : (encodeFrame f).length = 8 + 5 * f.arrivals.length := by
  have harrivals : (f.arrivals.flatMap encodeArrival).length = 5 * f.arrivals.length :=
    length_flatMap_of_length (f := encodeArrival) (fun _ => rfl) f.arrivals
  simp only [encodeFrame, frameBody, List.length_append, harrivals, encodeHeader, bytes16, List.length_cons, List.length_nil]
  omega

/-! ### The due events -/

theorem RoundTimer.slotLength_le (x : RoundTimer) :
    x.slotLength ≤ x.beat ↔ 512 + x.correction.getD 0 ≤ (x.beat : Int) :=
  Int.toNat_le

theorem State.mem_timerEvents (s : State) (e : Instr) :
    e ∈ s.timerEvents ↔
      (e = .slotOpens (Config.channelOrder s.choices) ∧
        (512 + s.timer.correction.getD 0 ≤ (s.timer.beat : Int) ∨ s.timer.opening = true)) ∨
      (∃ b x, s.timer.boundary = some b ∧ x ∈ b.due ∧ e = .roundBoundary [x]) ∨
      (e = .ownSlotOpens ∧ s.timer.ownOpening = true) := by
  simp only [State.timerEvents, List.mem_append, RoundTimer.slotLength_le, or_assoc]
  refine or_congr ?_ (or_congr ?_ ?_)
  · split <;> simp_all
  · cases s.timer.boundary <;> simp [eq_comm]
  · split <;> simp_all

theorem State.mem_lineEvents (s : State) (e : Instr) :
    e ∈ s.lineEvents ↔
      (e = .sendOffset ∧ s.frames.assembled ≠ none ∧ s.timer.slot = s.timer.station ∧
        s.timer.station.val < s.timer.size ∧ s.timer.beat = 32) ∨
      (e = .ownFrameEnd (Config.lineHeard s.choices) ∧
        ∃ x, s.frames.transmitting = some x ∧ (lineBeats x.bytes).length ≤ x.elapsed) ∨
      (e = .listenTimerExpiry ∧ s.line.state = .listen ∧ s.line.listen = some 0) := by
  simp only [State.lineEvents, List.mem_append, or_assoc]
  refine or_congr ?_ (or_congr ?_ ?_)
  · have hsend : (s.frames.assembled.isSome = true ∧ s.timer.slot = s.timer.station ∧ s.timer.hasOwnSlot = true ∧
        s.timer.beat = Config.sendOffset) ↔ (s.frames.assembled ≠ none ∧ s.timer.slot = s.timer.station ∧
        s.timer.station.val < s.timer.size ∧ s.timer.beat = 32) := by
      rw [Option.isSome_iff_ne_none, RoundTimer.hasOwnSlot, decide_eq_true_eq]
      rfl
    split <;> simp_all
  · cases s.frames.transmitting with
    | none => simp
    | some x =>
      have hbeats : x.beats = (lineBeats x.bytes).length := (lineBeats_length x.bytes).symm
      dsimp only
      split <;> simp_all
  · split <;> simp_all

/-- The change of a channel's next beat (R149, R150). -/
theorem Channel.nextChange_iff (c : Channel) :
    (c.nextChange = some .phaseWaitEnd ↔ c.run = .waiting ∧ c.phaseRemaining ≤ 1) ∧
      (c.nextChange = some .highToLow ↔
        c.run = .running ∧ c.position + 1 < c.active.period.toNat ∧ c.position + 1 = c.active.high.toNat) ∧
      (c.nextChange = some .periodEnd ↔ c.run = .running ∧ c.active.period.toNat ≤ c.position + 1) := by
  unfold Channel.nextChange
  cases c.run with
  | idle => simp
  | finished => simp
  | waiting => by_cases h : c.phaseRemaining ≤ 1 <;> simp [h]
  | running =>
    by_cases hend : c.active.period.toNat ≤ c.position + 1
    · simp [hend, Nat.not_lt.mpr hend]
    · have hroom := Nat.not_le.mp hend
      by_cases hfall : c.position + 1 = c.active.high.toNat
      · have hhigh : c.active.high.toNat < c.active.period.toNat := hfall ▸ hroom
        simp only [if_neg hend, if_pos hfall]
        simp [hhigh, hfall]
      · simp [hend, hfall]

theorem State.channelEvent_iff (s : State) (k : ChannelIndex) (e : Instr) :
    s.channelEvent k = some e ↔ (s.channel k).owed = true ∧ s.timer.beat < 512 ∧
      ((e = .phaseWaitEnd k ∧ (s.channel k).nextChange = some .phaseWaitEnd) ∨
        (e = .highToLowChange k ∧ (s.channel k).nextChange = some .highToLow) ∨
        (e = .periodEnd k ∧ (s.channel k).nextChange = some .periodEnd)) := by
  have hholding : s.timer.holding = false ↔ s.timer.beat < 512 := by
    rw [RoundTimer.holding, decide_eq_false_iff_not, Nat.not_le]
    rfl
  unfold State.channelEvent
  by_cases h : (s.channel k).owed = true ∧ s.timer.holding = false
  · rw [if_pos h, ← hholding]
    cases (s.channel k).nextChange with
    | none => simp
    | some change => cases change <;> simp [h, eq_comm]
  · rw [if_neg h]
    exact ⟨fun hnone => by contradiction, fun ⟨howed, hbeat, _⟩ => absurd ⟨howed, hholding.mpr hbeat⟩ h⟩

theorem State.markerEvent_iff (s : State) (k : MarkerIndex) (e : Instr) :
    s.markerEvent k = some e ↔ (s.marker k).high = true ∧ (s.marker k).remaining = 0 ∧ e = .markerPulseEnd k := by
  unfold State.markerEvent
  by_cases h : (s.marker k).high = true ∧ (s.marker k).remaining = 0
  · rw [if_pos h, Option.some.injEq]
    exact ⟨fun he => ⟨h.1, h.2, he.symm⟩, fun ⟨_, _, he⟩ => he.symm⟩
  · rw [if_neg h]
    exact ⟨fun hnone => by contradiction, fun ⟨hhigh, hzero, _⟩ => absurd ⟨hhigh, hzero⟩ h⟩

theorem State.mem_dueEvents (s : State) (e : Instr) :
    e ∈ s.dueEvents ↔ e ∈ s.timerEvents ∨ e ∈ s.lineEvents ∨ (∃ k, s.channelEvent k = some e) ∨
      ∃ k, s.markerEvent k = some e := by
  have hmarkers (k : MarkerIndex) : k ∈ ([0, 1] : List MarkerIndex) := by revert k; decide
  simp only [State.dueEvents, List.mem_append, List.mem_filterMap, mem_allChannels, hmarkers, true_and, or_assoc]

/-- One of the due events is chosen, where there is one (log entry 7). -/
theorem State.chosenEvent_of_due (s : State) (h : s.dueEvents ≠ []) : ∃ e ∈ s.dueEvents, s.chosenEvent = some e := by
  unfold State.chosenEvent
  split
  · contradiction
  · next e he => exact ⟨e, by simp [he], rfl⟩
  · next e es _ he =>
    rw [he]
    have hlt : Config.nextEvent s.choices % (e :: es).length < (e :: es).length := Nat.mod_lt _ (by simp)
    rw [List.getElem?_eq_getElem hlt, Option.getD_some]
    exact ⟨_, List.getElem_mem hlt, rfl⟩

theorem step_idle (hpending : s.pending = []) (hrunning : s.resetHeld = false) :
    (s.dueEvents = [] → step s = .next s.passBeat) ∧
      (s.dueEvents ≠ [] → ∃ e ∈ s.dueEvents, step s = exec e { s with choices := s.choices + 1 }) := by
  have hidle : step s = idle s := by simp only [step, hpending]
  rw [hidle, idle, if_neg (by simp [hrunning])]
  refine ⟨fun hnone => ?_, fun hsome => ?_⟩
  · simp only [State.chosenEvent, hnone]
  · obtain ⟨e, he, hchosen⟩ := s.chosenEvent_of_due hsome
    exact ⟨e, he, by rw [hchosen]⟩

theorem exists_channel_eq {p q : ChannelIndex → Prop} {r : Prop} {k : ChannelIndex} :
    (∃ j, p j ∧ r ∧ k = j ∧ q j) ↔ p k ∧ r ∧ q k :=
  ⟨fun ⟨_, hp, hr, heq, hq⟩ => heq ▸ ⟨hp, hr, hq⟩, fun ⟨hp, hr, hq⟩ => ⟨k, hp, hr, rfl, hq⟩⟩

/-- Settles O2. -/
theorem idleStepTakesDueEventOrBeat : Obligations.IdleStepTakesDueEventOrBeat := by
  refine ⟨fun s => step_idle, fun s => ?_⟩
  have hdue (e : Instr) := s.mem_dueEvents e
  simp only [State.mem_timerEvents, State.mem_lineEvents, State.channelEvent_iff, State.markerEvent_iff] at hdue
  refine ⟨?_, fun order => ?_, ?_, ?_, ?_, fun f => ?_, ?_, fun k c hc => ?_, fun k => ?_, fun e he => ?_⟩
  · simp [hdue]
  · simp [hdue]
  · simp [hdue]
  · simp [hdue]
  · simp [hdue]
  · rw [lineBeats_length, encodeFrame_length]; omega
  · simp [hdue]
  · subst hc
    obtain ⟨hwait, hfall, hend⟩ := (s.channel k).nextChange_iff
    refine ⟨?_, ?_, ?_⟩
    · simp [hdue, ← hwait, exists_channel_eq]
    · simp [hdue, ← hfall, exists_channel_eq]
    · simp [hdue, ← hend, exists_channel_eq]
  · simp [hdue]
  · rw [hdue] at he
    rcases he with (⟨rfl, _⟩ | ⟨b, x, _, _, rfl⟩ | ⟨rfl, _⟩) | (⟨rfl, _⟩ | ⟨rfl, _⟩ | ⟨rfl, _⟩) |
      ⟨k, _, _, ⟨rfl, _⟩ | ⟨rfl, _⟩ | ⟨rfl, _⟩⟩ | ⟨k, _, _, rfl⟩ <;> simp

/-! ### One beat -/

/-- Every marker of a list, none twice, is changed. -/
theorem State.foldl_setMarker (g : Marker → Marker) (l : List MarkerIndex) (hl : l.Nodup) (s : State) (j : MarkerIndex) :
    (l.foldl (fun s k => s.setMarker k (g (s.marker k))) s).marker j = if j ∈ l then g (s.marker j) else s.marker j := by
  induction l generalizing s with
  | nil => simp
  | cons k l ih =>
    obtain ⟨hk, hl⟩ := List.nodup_cons.mp hl
    rw [List.foldl_cons, ih hl]
    by_cases h : j = k
    · subst h; simp [hk]
    · simp [h]

/-- A beat moves a channel's place alone, or owes its change (R149, R150, R153). -/
theorem Channel.beat_frame (c : Channel) (holding : Bool) :
    c.beat holding =
      { c with
        owed := (c.beat holding).owed, phaseRemaining := (c.beat holding).phaseRemaining
        position := (c.beat holding).position } := by
  unfold Channel.beat
  split
  · rfl
  · split
    · unfold Channel.advance
      split <;> rfl
    · rfl

/-- The place of a channel one beat on (R149, R150, R153). -/
theorem Channel.beat_place (c : Channel) (holding : Bool) :
    ((c.beat holding).owed, (c.beat holding).phaseRemaining, (c.beat holding).position) =
      (if c.owed = true ∨ holding = true then (c.owed, c.phaseRemaining, c.position)
      else if c.run = .waiting then
        if c.phaseRemaining ≤ 1 then (true, c.phaseRemaining, c.position)
        else (false, c.phaseRemaining - 1, c.position)
      else if c.run = .running then
        if c.active.period.toNat ≤ c.position + 1 ∨ c.position + 1 = c.active.high.toNat then
          (true, c.phaseRemaining, c.position)
        else (false, c.phaseRemaining, c.position + 1)
      else (false, c.phaseRemaining, c.position)) := by
  by_cases hheld : c.owed = true ∨ holding = true
  · simp only [Channel.beat, if_pos hheld]
  · have howed : c.owed = false := by simpa using (not_or.mp hheld).1
    obtain ⟨hwait, hfall, hend⟩ := c.nextChange_iff
    simp only [Channel.beat, if_neg hheld]
    cases hnext : c.nextChange with
    | some change =>
      cases change with
      | phaseWaitEnd =>
        obtain ⟨hrun, hlast⟩ := hwait.mp hnext
        simp [hrun, hlast]
      | highToLow =>
        obtain ⟨hrun, _, hhigh⟩ := hfall.mp hnext
        simp [hrun, hhigh]
      | periodEnd =>
        obtain ⟨hrun, hlast⟩ := hend.mp hnext
        simp [hrun, hlast]
    | none =>
      rw [hnext] at hwait hfall hend
      cases hrun : c.run with
      | idle => simp [Channel.advance, hrun, howed]
      | finished => simp [Channel.advance, hrun, howed]
      | waiting =>
        have hmore : ¬c.phaseRemaining ≤ 1 := fun h => by simpa using hwait.mpr ⟨hrun, h⟩
        simp [Channel.advance, hrun, howed, hmore]
      | running =>
        have hperiod : ¬c.active.period.toNat ≤ c.position + 1 := fun h => by simpa using hend.mpr ⟨hrun, h⟩
        have hhigh : ¬c.position + 1 = c.active.high.toNat := fun h => by
          simpa using hfall.mpr ⟨hrun, Nat.not_le.mp hperiod, h⟩
        simp [Channel.advance, hrun, howed, hperiod, hhigh]

/-- The channels and the markers have had their beat. -/
def State.moved (s : State) : State :=
  ([0, 1] : List MarkerIndex).foldl (fun s k => s.setMarker k (s.marker k).beat)
    (allChannels.foldl (fun t k => t.setChannel k ((t.channel k).beat s.timer.holding)) s)

theorem State.moved_keeps (s : State) : Keeps [.channels, .markers] s s.moved :=
  Keeps.trans (Keeps.foldl (fun t k => (setChannel_keeps t k _).mono [.channels, .markers]) s allChannels)
    (Keeps.foldl (fun t k => (setMarker_keeps t k _).mono [.channels, .markers]) _ [0, 1])

theorem State.moved_channel (s : State) (k : ChannelIndex) :
    s.moved.channel k = ((s.channel k).beat s.timer.holding).settle s.isActive := by
  have hmarkers (t : State) :
      (([0, 1] : List MarkerIndex).foldl (fun s k => s.setMarker k (s.marker k).beat) t).channels = t.channels :=
    Keeps.foldl (fun t k => setMarker_keeps t k _) t [0, 1] .channels (by decide)
  rw [State.moved, State.channel_congr (hmarkers _),
    State.foldl_setChannel (fun c => c.beat s.timer.holding) allChannels allChannels_nodup s k, if_pos (mem_allChannels k)]

theorem State.moved_marker (s : State) (k : MarkerIndex) : s.moved.marker k = (s.marker k).beat := by
  have hchannels : (allChannels.foldl (fun t k => t.setChannel k ((t.channel k).beat s.timer.holding)) s).markers = s.markers :=
    Keeps.foldl (fun t k => setChannel_keeps t k _) s allChannels .markers (by decide)
  have hmem : k ∈ ([0, 1] : List MarkerIndex) := by revert k; decide
  rw [State.moved, State.foldl_setMarker Marker.beat [0, 1] (by decide), if_pos hmem, State.marker, hchannels, ← State.marker]

/-- Line time, the listen timer and the frame in transmission count a beat (R2, R32, R39). -/
def State.counted (s : State) : State :=
  { s with
    timer := { s.timer.later with beat := s.timer.beat + 1 }
    line := { s.line with listen := s.line.listen.map (· - 1) }
    frames :=
      { s.frames with transmitting := s.frames.transmitting.map fun t => { t with elapsed := t.elapsed + 1 } } }

theorem State.passBeat_eq (s : State) : s.passBeat = s.moved.counted := by
  have hcounts (u : State) :
      ((u.setLine { u.line with listen := u.line.listen.map (· - 1) }).setFrames
        { u.frames with transmitting := u.frames.transmitting.map fun t => { t with elapsed := t.elapsed + 1 } }).setTimer
          { u.timer.later with beat := u.timer.beat + 1 } = u.counted := rfl
  exact hcounts s.moved

/-- Where no event of the timer is due, no boundary is in progress and no opening waits. -/
theorem State.timer_of_noneDue (h : s.dueEvents = []) :
    s.timer.dueBoundary = none ∧ s.timer.opening = false ∧ s.timer.ownOpening = false := by
  have hnone (e : Instr) : e ∉ s.timerEvents := fun he => by
    have hdue := (s.mem_dueEvents e).mpr (.inl he)
    rw [h] at hdue
    contradiction
  simp only [State.mem_timerEvents, not_or] at hnone
  refine ⟨?_, ?_, ?_⟩
  · rw [RoundTimer.dueBoundary, Option.filter_eq_none_iff]
    intro b hb
    cases hdue : b.due with
    | nil => simp
    | cons x l => exact absurd ⟨b, x, hb, by simp [hdue], rfl⟩ (hnone (.roundBoundary [x])).2.1
  · have hopening := (hnone (.slotOpens (Config.channelOrder s.choices))).1
    simp only [true_and, not_or, Bool.not_eq_true] at hopening
    exact hopening.2
  · have hown := (hnone .ownSlotOpens).2.2
    simpa using hown

/-- Settles O5. -/
theorem idleBeatCounts : Obligations.IdleBeatCounts := by
  intro s hpending hrunning hnone
  have hkeeps := s.moved_keeps
  have hchannel := s.moved_channel
  have hmarker := s.moved_marker
  obtain ⟨hboundary, hopening, hown⟩ := State.timer_of_noneDue hnone
  refine ⟨s.passBeat, (step_idle hpending hrunning).1 hnone, ?_⟩
  rw [State.passBeat_eq]
  generalize s.moved = u at hkeeps hchannel hmarker
  have hu : u = { s with channels := u.channels, markers := u.markers } := hkeeps.eq_taking
  have htimer : s.timer.later = { s.timer with boundary := none } := by
    simp [RoundTimer.later, hboundary, hopening, hown]
  refine ⟨?_, fun k => ?_, fun k c hc => ?_⟩
  · have hchannels : u.counted.channels = u.channels := rfl
    have hmarkers : u.counted.markers = u.markers := rfl
    rw [hchannels, hmarkers]
    conv => lhs; rw [hu, State.counted]
    dsimp only
    rw [htimer]
  · refine (hmarker k).trans ?_
    unfold Marker.beat
    split
    · next h => rw [← h]
    · rfl
  · subst hc
    have hk : u.counted.channel k = ((s.channel k).beat s.timer.holding).settle s.isActive := hchannel k
    have hholding : s.timer.holding = true ↔ 512 ≤ s.timer.beat := decide_eq_true_iff
    have hplace := (s.channel k).beat_place s.timer.holding
    simp only [hholding] at hplace
    rw [hk]
    refine ⟨Channel.settle_pinFits _ _, ?_, hplace⟩
    have hframe := (s.channel k).beat_frame s.timer.holding
    generalize (s.channel k).beat s.timer.holding = d at hframe
    exact congrArg (fun c : Channel => { c with forced := (d.settle s.isActive).forced, pin := (d.settle s.isActive).pin }) hframe

end Sys2Proof.Machine
end

section
/-!
PROOFS about line time and round boundaries: SLOT_OPENS, the own slot, round arithmetic, and what the reactions to a
boundary do to the round timer.
-/

namespace Sys2Proof.Machine

-- One lemma after another: side by side, the evaluations of `decide` would each hold a thread.
set_option Elab.async false

variable {s t u : State}

/-! ### The round timer -/

theorem RoundTimer.carried_of_none {x : RoundTimer} (h : x.boundary = none) : x.carried = x.round := by
  rw [RoundTimer.carried, h]

theorem RoundTimer.carried_of_some {x : RoundTimer} {b : Boundary} (h : x.boundary = some b) : x.carried = b.opening := by
  rw [RoundTimer.carried, h]

theorem RoundTimer.dueBoundary_of_none {x : RoundTimer} (h : x.boundary = none) : x.dueBoundary = none := by
  rw [RoundTimer.dueBoundary, h]
  rfl

theorem RoundTimer.dueBoundary_of_some {x : RoundTimer} {b : Boundary} (h : x.boundary = some b) :
    x.dueBoundary = if b.due = [] then none else some b := by
  rw [RoundTimer.dueBoundary, h, Option.filter_some]
  cases b.due <;> rfl

/-- Line time without a negative correction: nothing but the correction is cleared (R9). -/
theorem State.applyCorrection_hold (h : ∀ d ∈ s.timer.correction, 0 ≤ d) (order : List ChannelIndex) :
    s.applyCorrection order = s.setTimer { s.timer with correction := none } := by
  unfold State.applyCorrection
  split
  · next hnone => rw [← hnone]; rfl
  · next d hd =>
    have hpos : ¬d < 0 := by have := h d hd; omega
    rw [if_neg hpos]

theorem RoundTimer.nextSlot_inside {x : RoundTimer} (hsize : x.size ≤ 16) (h : x.slot.val + 1 < x.size) :
    x.nextSlot.val = x.slot.val + 1 := by
  unfold RoundTimer.nextSlot
  rw [dif_pos (by omega), if_pos h]

theorem RoundTimer.nextSlot_behind {x : RoundTimer} (h : x.size ≤ x.slot.val + 1) : x.nextSlot = 0 := by
  unfold RoundTimer.nextSlot
  split
  · rw [if_neg (by omega)]
  · rfl

/-- The next slot of the round opens (R2, R6). -/
theorem RoundTimer.openNext_inside {x : RoundTimer} (hsize : x.size ≤ 16) (h : x.slot.val + 1 < x.size) :
    x.openNext = x.openSlot x.nextSlot := by
  have hval := RoundTimer.nextSlot_inside hsize h
  have hne : x.nextSlot ≠ 0 := fun hzero => by rw [hzero] at hval; simp at hval
  rw [RoundTimer.openNext, if_neg hne]

/-- Behind slot N − 1 the next round opens (R3, R6). -/
theorem RoundTimer.openNext_behind {x : RoundTimer} (h : x.size ≤ x.slot.val + 1) : x.openNext = x.openRound := by
  rw [RoundTimer.openNext, RoundTimer.nextSlot_behind h, if_pos rfl]

/-! ### SLOT_OPENS -/

theorem exec_slotOpens (hrunning : s.resetHeld = false) (order : List ChannelIndex) :
    exec (.slotOpens order) s = .next (s.openSlot order) :=
  s.whenRunning_running (fun s => s.openSlot order) hrunning

theorem State.openSlot_taken (h : s.timer.opening = true) (order : List ChannelIndex) :
    s.openSlot order = s.setTimer { s.timer with opening := false } := by
  rw [State.openSlot, if_pos h]

/-- The slot opens once the correction is applied (R6, R9). -/
theorem State.openSlot_opens (h : s.timer.opening = false) (order : List ChannelIndex) :
    s.openSlot order =
      (s.applyCorrection (channelOrder order)).setTimer
        { (s.applyCorrection (channelOrder order)).timer.openNext with opening := false } := by
  rw [State.openSlot, if_neg (by rw [h]; exact Bool.false_ne_true)]

theorem State.openSlot_hold (h : s.timer.opening = false) (hcorrection : ∀ d ∈ s.timer.correction, 0 ≤ d)
    (order : List ChannelIndex) :
    s.openSlot order = s.setTimer { RoundTimer.openNext { s.timer with correction := none } with opening := false } := by
  rw [State.openSlot_opens h, State.applyCorrection_hold hcorrection]
  rfl

theorem State.openSlot_keeps (s : State) (order : List ChannelIndex) : Keeps (.timer :: closing) s (s.openSlot order) :=
  Keeps.ite ((setTimer_keeps s _).mono _) ((applyCorrection_keeps s _).trans ((setTimer_keeps _ _).mono _))

/-- Settles O10, by the two places of the next slot: inside the round, or behind slot N − 1. -/
theorem slotOpensAdvancesLineTime : Obligations.SlotOpensAdvancesLineTime := by
  refine ⟨fun x => ⟨fun hnone => ⟨RoundTimer.carried_of_none hnone, RoundTimer.dueBoundary_of_none hnone⟩,
    fun b hb => ⟨RoundTimer.carried_of_some hb, RoundTimer.dueBoundary_of_some hb⟩⟩, ?_⟩
  intro order s hrunning _ hsize
  rw [exec_slotOpens hrunning]
  refine ⟨fun hopening => by rw [State.openSlot_taken hopening]; rfl, fun hopening hcorrection => ?_⟩
  rw [State.openSlot_hold hopening hcorrection]
  refine ⟨s.timer.nextSlot, fun hinside => ⟨RoundTimer.nextSlot_inside hsize hinside, ?_⟩, fun hbehind => ?_⟩
  · rw [RoundTimer.openNext_inside (x := { s.timer with correction := none }) hsize hinside]
    rw [← hopening]
    rfl
  · rw [RoundTimer.openNext_behind (x := { s.timer with correction := none }) hbehind]
    rw [← hopening]
    rfl

/-! ### The reactions to a boundary -/

theorem Boundary.without_of_not_mem {b : Boundary} {x : BoundaryReaction} (h : x ∉ b.due) : b.without x = b := by
  have hdue : (b.due.filter fun y => decide (y ≠ x)) = b.due :=
    List.filter_eq_self.mpr fun y hy => decide_eq_true fun heq => h (heq ▸ hy)
  rw [Boundary.without, hdue]

/-- The number of the round in progress goes on with the table's reaction (R3, log entry 4). -/
theorem State.openTable_timer (s : State) (opening : Round) :
    (s.openTable opening).timer = { s.timer with round := opening } := by
  have htable : Keeps _ (s.setTimer { s.timer with round := opening }) _ := tableBoundary_keeps _ opening
  have hnote : Keeps _ _ (s.openTable opening) := noteClosed_keeps s _
  exact (hnote .timer (by decide)).trans (htable .timer (by decide))

/-- Of the blocks' reactions only the rendezvous table's touches the round timer (R3, log entry 4). -/
theorem State.reactionOf_timer (s : State) (opening : Round) (r : RoundRecords) (x : BoundaryReaction) :
    (s.reactionOf opening r x).timer = if x = .table then { s.timer with round := opening } else s.timer := by
  cases x with
  | view => rfl
  | peers => exact peersBoundary_keeps s (opening - 1#16) .timer (by decide)
  | line => exact lineBoundary_keeps s (opening - 1#16) opening r.good r.foreign .timer (by decide)
  | table =>
    rw [if_pos rfl]
    exact s.openTable_timer opening
  | assembly => rfl

/-- A reaction of a block is crossed off, and the number of the round goes on with the table's. -/
theorem State.react_timer {b : Boundary} (hb : s.timer.boundary = some b) {x : BoundaryReaction} (hx : x ≠ .assembly) :
    (s.react x).timer =
      { s.timer with
        boundary := some (b.without x)
        round := if x = .table ∧ .table ∈ b.due then b.opening else s.timer.round } := by
  by_cases hmem : x ∈ b.due
  · rw [State.react_due s x b hx hb hmem, State.reactionOf_timer]
    by_cases htable : x = .table
    · rw [if_pos htable, if_pos ⟨htable, htable ▸ hmem⟩]
      rfl
    · rw [if_neg htable, if_neg (fun h => htable h.1)]
      rfl
  · have htaken : s.react x = s :=
      State.react_taken s x hx fun c hc => by rw [hb, Option.some.injEq] at hc; exact hc ▸ hmem
    rw [htaken, Boundary.without_of_not_mem hmem, if_neg (fun h : x = .table ∧ .table ∈ b.due => hmem (h.1 ▸ h.2)), ← hb]

theorem State.assemble_timer (s : State) : s.assemble.timer = s.timer := assemble_keeps s .timer (by decide)

/-- The assembly takes the own slot opening of station 0. -/
theorem State.react_assembly_timer (s : State) :
    (s.react .assembly).timer =
      { s.timer with ownOpening := s.timer.ownOpening && decide (s.timer.station ≠ 0) } := by
  rw [State.react_assembly]
  by_cases hzero : s.timer.station = 0
  · rw [if_pos hzero]
    cases hown : s.timer.ownOpening with
    | false => rw [State.takeOwnOpening_taken s hown, Bool.false_and, ← hown]
    | true =>
      rw [State.takeOwnOpening, if_pos hown, State.assemble_timer, State.setTimer_timer, hzero]
      rfl
  · rw [if_neg hzero, decide_eq_true hzero, Bool.and_true]

theorem filter_true_eq {α : Type} (l : List α) : (l.filter fun _ => true) = l := List.filter_eq_self.mpr fun _ _ => rfl

theorem filter_false_eq {α : Type} (l : List α) : (l.filter fun _ => false) = [] := List.filter_eq_nil_iff.mpr fun _ _ => Bool.false_ne_true

/-- Line time behind a row of reactions: those named are crossed off, and the number of the round has gone on if the
table's was due among them (R3, R6, log entries 3 and 4). -/
theorem State.foldl_react_timer (order : List BoundaryReaction) {b : Boundary} (hb : s.timer.boundary = some b)
    (hassembly : .assembly ∉ b.due) :
    (order.foldl State.react s).timer.boundary = some { b with due := b.due.filter fun x => !order.contains x } ∧
      (order.foldl State.react s).timer.round =
        (if .table ∈ order ∧ .table ∈ b.due then b.opening else s.timer.round) ∧
      (order.foldl State.react s).timer.slot = s.timer.slot ∧ (order.foldl State.react s).timer.beat = s.timer.beat ∧
      (order.foldl State.react s).timer.correction = s.timer.correction := by
  induction order generalizing s b with
  | nil =>
    have hdue : (b.due.filter fun x => !([] : List BoundaryReaction).contains x) = b.due := filter_true_eq b.due
    rw [hdue]
    exact ⟨hb, (if_neg fun h => List.not_mem_nil h.1).symm, rfl, rfl, rfl⟩
  | cons x order ih =>
    rw [List.foldl_cons]
    by_cases hx : x = .assembly
    · subst hx
      have htimer := s.react_assembly_timer
      obtain ⟨hboundary, hround, hslot, hbeat, hcorrection⟩ :=
        ih (s := s.react .assembly) (b := b) (by rw [htimer]; exact hb) hassembly
      rw [hboundary, hround, hslot, hbeat, hcorrection, htimer]
      refine ⟨?_, ?_, rfl, rfl, rfl⟩
      · have hdue : (b.due.filter fun x => !order.contains x) = b.due.filter fun x => !(.assembly :: order).contains x :=
          List.filter_congr fun y hy => by
            have hne : y ≠ .assembly := fun h => hassembly (h ▸ hy)
            simp [hne]
        rw [hdue]
      · simp
    · have htimer := State.react_timer hb hx
      obtain ⟨hboundary, hround, hslot, hbeat, hcorrection⟩ :=
        ih (s := s.react x) (b := b.without x) (by rw [htimer]) (fun h => hassembly (List.mem_filter.mp h).1)
      rw [hboundary, hround, hslot, hbeat, hcorrection, htimer]
      refine ⟨?_, ?_, rfl, rfl, rfl⟩
      · simp only [Boundary.without, List.filter_filter, List.contains_cons, Bool.not_or, Option.some.injEq,
          Boundary.mk.injEq, true_and, and_true]
        refine List.filter_congr fun y _ => ?_
        by_cases hy : y = x <;> simp [hy]
      · by_cases ht : x = .table <;> simp [ht, Boundary.without, eq_comm]

/-! ### The boundary that a command takes -/

/-- What a ROUND_BOUNDARY hands over: the records of the closing round, once (R23). -/
def State.handOver (s : State) (b : Boundary) : State :=
  (s.setTimer { s.timer with boundary := some { b with records := some s.records } }).setFrames
    { s.frames with good := 0#16, foreign := 0#16, mark := false }

theorem exec_roundBoundary (hrunning : s.resetHeld = false) (order : List BoundaryReaction) :
    exec (.roundBoundary order) s = .next (s.takeBoundary order) :=
  s.whenRunning_running (fun s => s.takeBoundary order) hrunning

theorem State.beginBoundary_handed {b : Boundary} {r : RoundRecords} (hb : s.timer.boundary = some b) (hdue : b.due ≠ [])
    (hr : b.records = some r) : s.beginBoundary = s := by
  have hhas : s.timer.dueBoundary = some b := by rw [RoundTimer.dueBoundary_of_some hb, if_neg hdue]
  simp only [State.beginBoundary, hhas, Option.isSome_some, if_true, hb, hr]

theorem State.beginBoundary_due {b : Boundary} (hb : s.timer.boundary = some b) (hdue : b.due ≠ [])
    (hr : b.records = none) : s.beginBoundary = s.handOver b := by
  have hhas : s.timer.dueBoundary = some b := by rw [RoundTimer.dueBoundary_of_some hb, if_neg hdue]
  simp only [State.beginBoundary, hhas, Option.isSome_some, if_true, hb, hr]
  rfl

theorem State.reachRound_timer (s : State) :
    s.reachRound.timer = RoundTimer.openRound { s.timer with correction := none } := by
  rw [State.reachRound, State.setTimer_timer, State.applyCorrection_timer]

theorem State.beginBoundary_reached (h : s.timer.dueBoundary = none) :
    s.beginBoundary = s.reachRound.handOver (Boundary.reached (s.timer.carried + 1#16)) := by
  have hb : s.reachRound.timer.boundary = some (Boundary.reached (s.timer.carried + 1#16)) := by
    rw [State.reachRound_timer]
    rfl
  simp only [State.beginBoundary, h, Option.isSome_none, if_false, hb, Bool.false_eq_true, Boundary.reached]
  rfl

/-- What a ROUND_BOUNDARY takes: the round that opens, the reactions that are due, and the round in progress. -/
theorem State.beginBoundary_reached_timer (h : s.timer.dueBoundary = none) :
    s.beginBoundary.timer =
      { RoundTimer.openRound { s.timer with correction := none } with
        boundary := some
          { Boundary.reached (s.timer.carried + 1#16) with records := some s.reachRound.records } } := by
  rw [State.beginBoundary_reached h, State.handOver, State.setFrames_timer, State.setTimer_timer, State.reachRound_timer]

/-! ### Round arithmetic -/

theorem State.takeBoundary_round_fresh (h : s.timer.boundary = none) (order : List BoundaryReaction) :
    (s.takeBoundary order).timer.round = if .table ∈ order then s.timer.round + 1#16 else s.timer.round := by
  have htimer := State.beginBoundary_reached_timer (RoundTimer.dueBoundary_of_none h)
  have hcarried := RoundTimer.carried_of_none h
  obtain ⟨_, hround, _⟩ :=
    State.foldl_react_timer order (s := s.beginBoundary) (by rw [htimer]) (by simp [Boundary.reached])
  rw [State.takeBoundary, hround, htimer]
  simp only [RoundTimer.openRound, Boundary.reached, hcarried]
  have hsame : RoundTimer.carried { s.timer with correction := none } = s.timer.round := hcarried
  simp [hsame]

theorem State.takeBoundary_round_due {b : Boundary} (hb : s.timer.boundary = some b) (hdue : b.due ≠ [])
    (hr : b.records = none) (hassembly : .assembly ∉ b.due) (order : List BoundaryReaction) :
    (s.takeBoundary order).timer.round = if .table ∈ order ∧ .table ∈ b.due then b.opening else s.timer.round := by
  obtain ⟨_, hround, _⟩ :=
    State.foldl_react_timer order (s := s.handOver b) (b := { b with records := some s.records }) rfl hassembly
  rw [State.takeBoundary, State.beginBoundary_due hb hdue hr, hround]
  rfl

theorem toNat_next_round (r : Round) : (r + 1#16).toNat = (r.toNat + 1) % 65536 := BitVec.toNat_add r 1#16

theorem precedes_iff (a b : Round) :
    precedes a b = true ↔
      1 ≤ (b.toNat + 65536 - a.toNat) % 65536 ∧ (b.toNat + 65536 - a.toNat) % 65536 ≤ 32767 := by
  have hsub : (b - a).toNat = (b.toNat + 65536 - a.toNat) % 65536 := by
    rw [BitVec.toNat_sub]
    have := a.isLt
    omega
  rw [precedes, decide_eq_true_iff, hsub]

theorem precedes_self (a : Round) : precedes a a = false := by
  rw [← Bool.not_eq_true, precedes_iff]
  omega

theorem precedes_opposite {a b : Round} (h : b - a = 32768#16) : precedes a b = false ∧ precedes b a = false := by
  have hb : b = a + 32768#16 := by rw [← h, BitVec.add_comm, BitVec.sub_add_cancel]
  have hval : b.toNat = (a.toNat + 32768) % 65536 := by rw [hb]; exact BitVec.toNat_add a 32768#16
  have hlt := a.isLt
  constructor <;> rw [← Bool.not_eq_true, precedes_iff, hval] <;> omega

/-- Settles O12. -/
theorem roundArithmetic : Obligations.RoundArithmetic := by
  refine ⟨fun order s hrunning hnone horder => ?_, fun order s hrunning hopening hnone hbehind => ?_, fun a k => ?_,
    precedes_iff, fun a b => ⟨precedes_self a, precedes_opposite⟩⟩
  · refine ⟨_, exec_roundBoundary hrunning order, ?_⟩
    rw [State.takeBoundary_round_fresh hnone, if_pos horder, toNat_next_round]
  · have htimer : (s.openSlot order).timer =
        { RoundTimer.openRound { s.timer with correction := none } with opening := false } := by
      rw [State.openSlot_opens hopening, State.setTimer_timer, State.applyCorrection_timer,
        RoundTimer.openNext_behind (x := { s.timer with correction := none }) hbehind]
    have hcarried : RoundTimer.carried { s.timer with correction := none } = s.timer.round :=
      RoundTimer.carried_of_none hnone
    have hround : (s.openSlot order).timer.round = s.timer.round := by rw [htimer]; exact hcarried
    have hrunning' : (s.openSlot order).resetHeld = false :=
      ((State.openSlot_keeps s order) .resetHeld (by decide)).trans hrunning
    have hb : (s.openSlot order).timer.boundary = some (Boundary.reached (s.timer.round + 1#16)) := by
      rw [htimer, ← hcarried]
      rfl
    have htaken := State.takeBoundary_round_due hb (by simp [Boundary.reached]) rfl (by simp [Boundary.reached])
    refine ⟨_, exec_slotOpens hrunning order, hround, fun order' => ⟨fun horder => ?_, fun horder => ?_⟩⟩
    · refine ⟨_, exec_roundBoundary hrunning' order', ?_⟩
      rw [htaken, if_pos ⟨horder, by simp [Boundary.reached]⟩]
      exact toNat_next_round _
    · refine ⟨_, exec_roundBoundary hrunning' order', ?_⟩
      rw [htaken, if_neg (fun h => horder h.1), hround]
  · rw [BitVec.toNat_add, BitVec.toNat_ofNat]
    omega

/-! ### OWN_SLOT_OPENS -/

theorem LineState.transmits_iff (l : LineState) : l.transmits = true ↔ l = .coldstart ∨ l = .active := by
  cases l <;> simp [LineState.transmits]

theorem RoundTimer.hasOwnSlot_iff (x : RoundTimer) : x.hasOwnSlot = true ↔ x.station.val < x.size := decide_eq_true_iff

theorem RoundTimer.atOwnSlot_iff (x : RoundTimer) : x.atOwnSlot = true ↔ x.slot = x.station ∧ x.beat = 0 :=
  decide_eq_true_iff

theorem State.assemble_silent (h : ¬s.line.state.transmits = true) : s.assemble = s := if_neg h

theorem State.assemble_sends (h : s.line.state.transmits = true) :
    s.assemble = s.setFrames { s.frames with assembled := some s.ownFrame } := if_pos h

/-- The opening of the own slot, which for station 0 is that of the next round (R6). -/
theorem RoundTimer.ownSlot_eq {x : RoundTimer} (hown : x.station.val < x.size) :
    (if x.station = 0 then x.openRound else x.openSlot x.station) =
      { x with
        round := if x.station = 0 then x.carried else x.round
        slot := x.station, beat := 0
        boundary := if x.station = 0 then some (Boundary.reached (x.carried + 1#16)) else x.dueBoundary
        opening := true, ownOpening := true } := by
  have hhas : x.hasOwnSlot = true := x.hasOwnSlot_iff.mpr hown
  by_cases hzero : x.station = 0
  · simp only [hzero, if_true, RoundTimer.openRound, hhas, decide_true, Bool.and_true]
  · simp only [hzero, if_false, RoundTimer.openSlot, RoundTimer.later, hhas, decide_true, Bool.and_true]

theorem exec_ownSlotOpens_absent (hrunning : s.resetHeld = false) (h : ¬s.timer.station.val < s.timer.size) :
    exec .ownSlotOpens s = .next s := by
  refine (s.whenRunning_running _ hrunning).trans ?_
  rw [if_neg (fun hown => h (s.timer.hasOwnSlot_iff.mp hown))]

/-- The own slot opening is taken where it is due at this instant, and otherwise where the command has brought it about
(R6, R29, log entries 2 and 4). -/
theorem exec_ownSlotOpens (hrunning : s.resetHeld = false) (h : s.timer.station.val < s.timer.size) :
    exec .ownSlotOpens s =
      .next (if s.timer.slot = s.timer.station ∧ s.timer.beat = 0 then s else s.reachOwnSlot).takeOwnOpening := by
  refine (s.whenRunning_running _ hrunning).trans ?_
  rw [if_pos (s.timer.hasOwnSlot_iff.mpr h)]
  simp only [RoundTimer.atOwnSlot_iff]

/-- The own slot as a command reaches it that names it first: for station 0 with the boundary (R6). -/
theorem State.reachOwnSlot_timer (s : State) :
    s.reachOwnSlot.timer =
      if s.timer.station = 0 then RoundTimer.openRound { s.timer with correction := none }
      else RoundTimer.openSlot { s.timer with correction := none } s.timer.station := by
  rw [State.reachOwnSlot, State.setTimer_timer, State.applyCorrection_timer]

theorem State.reachOwnSlot_at (hown : s.timer.station.val < s.timer.size) :
    s.reachOwnSlot.timer.slot = s.reachOwnSlot.timer.station ∧ s.reachOwnSlot.timer.beat = 0 ∧
      s.reachOwnSlot.timer.station.val < s.reachOwnSlot.timer.size := by
  rw [State.reachOwnSlot_timer]
  split
  · next hzero => exact ⟨hzero.symm, rfl, hown⟩
  · exact ⟨rfl, rfl, hown⟩

/-- Where the command brings the instant about, it does what it does at that instant. -/
theorem exec_ownSlotOpens_before (hrunning : s.resetHeld = false) (hown : s.timer.station.val < s.timer.size)
    (hbefore : s.timer.slot ≠ s.timer.station ∨ s.timer.beat ≠ 0) :
    exec .ownSlotOpens s = exec .ownSlotOpens s.reachOwnSlot := by
  have hrunning' : s.reachOwnSlot.resetHeld = false :=
    (applyCorrection_keeps s allChannels .resetHeld (by decide)).trans hrunning
  obtain ⟨hslot, hbeat, hown'⟩ := State.reachOwnSlot_at hown
  have hnot : ¬(s.timer.slot = s.timer.station ∧ s.timer.beat = 0) := fun h => hbefore.elim (· h.1) (· h.2)
  rw [exec_ownSlotOpens hrunning hown, if_neg hnot, exec_ownSlotOpens hrunning' hown', if_pos ⟨hslot, hbeat⟩]

/-- Settles O13. -/
theorem ownSlotOpensAssembles : Obligations.OwnSlotOpensAssembles := by
  intro s hrunning
  have hat (hown : s.timer.station.val < s.timer.size) (hslot : s.timer.slot = s.timer.station) (hbeat : s.timer.beat = 0) :
      exec .ownSlotOpens s = .next s.takeOwnOpening := by
    rw [exec_ownSlotOpens hrunning hown, if_pos ⟨hslot, hbeat⟩]
  refine ⟨fun habsent => exec_ownSlotOpens_absent hrunning (by omega), fun hown hslot hbeat htaken => ?_,
    fun hown hslot hbeat hdue hcold hactive => ?_, fun hown hslot hbeat hdue hstate => ?_,
    fun hown hbefore hcorrection => ?_⟩
  · rw [hat hown hslot hbeat, s.takeOwnOpening_taken htaken]
  · have hsilent : ¬s.line.state.transmits = true := fun h => ((LineState.transmits_iff _).mp h).elim hcold hactive
    rw [hat hown hslot hbeat, State.takeOwnOpening, if_pos hdue, State.assemble_silent (by exact hsilent)]
    rfl
  · have hsends : s.line.state.transmits = true := (LineState.transmits_iff _).mpr hstate
    refine ⟨(s.setTimer { s.timer with ownOpening := false }).ownFrame, ?_, rfl, rfl, fun hnone => ?_, fun b hb => ?_,
      rfl, rfl, rfl, fun i => ?_⟩
    · rw [hat hown hslot hbeat, State.takeOwnOpening, if_pos hdue, State.assemble_sends (by exact hsends)]
      rfl
    · exact RoundTimer.carried_of_none (x := { s.timer with ownOpening := false }) hnone
    · exact RoundTimer.carried_of_some (x := { s.timer with ownOpening := false }) hb
    · exact List.mem_filter.trans (and_congr_right fun _ => Option.isNone_iff_eq_none)
  · refine ⟨s.reachOwnSlot, ?_, exec_ownSlotOpens_before hrunning hown hbefore⟩
    rw [State.reachOwnSlot, State.applyCorrection_hold hcorrection]
    exact congrArg (fun x => { s with timer := x })
      (RoundTimer.ownSlot_eq (x := { s.timer with correction := none }) hown)

end Sys2Proof.Machine
end

section
/-!
PROOFS about frames on the line: the own frame's end, what becomes of each kind of line activity, cold starts, and the
adoption of a received frame's timing (R21 to R48).
-/

namespace Sys2Proof.Machine

-- One lemma after another: side by side, the evaluations of `decide` would each hold a thread.
set_option Elab.async false

variable {s t u : State}

/-! ### Counters and latches -/

/-- A counter counts up by one and saturates at 65535 (R35). -/
theorem bump_eq (c : Counter) : bump c = BitVec.ofNat 16 (min 65535 (c.toNat + 1)) := by
  have hlt := c.isLt
  unfold bump
  split
  · next h => subst h; rfl
  · next h =>
    have hne : c.toNat ≠ 65535 := fun hc => h (BitVec.eq_of_toNat_eq hc)
    refine BitVec.eq_of_toNat_eq ?_
    rw [BitVec.toNat_add, BitVec.toNat_ofNat]
    simp only [BitVec.toNat_ofNat]
    omega

/-- The latched events behind a change of state hold STATE_CHANGE (R59). -/
theorem State.enter_latched (s : State) (target : LineState) :
    (s.enter target).latches.latched = s.latches.latched ||| 0x80#8 := by
  rw [State.enter_latches]
  rfl

theorem getLsbD_stateChange (l : EventSet) : (l ||| 0x80#8).getLsbD 7 = true := by
  rw [BitVec.getLsbD_or, Bool.or_eq_true]
  exact .inr rfl

theorem State.enter_transmitting (s : State) (target : LineState) :
    (s.enter target).frames.transmitting = s.frames.transmitting := by
  by_cases ht : target = .listen ∨ target = .offline
  · rw [State.enter_frames_idle s ht]
  · rw [not_or] at ht
    rw [State.enter_other s ht.1 ht.2, State.turned_keeps s target .frames (by decide)]

/-! ### OWN_FRAME_END -/

/-- The own frame is over: it is counted, and the line released (R32, R33, R35). -/
def State.frameOver (s : State) (passed : Bool) : State :=
  (s.passInstant.setFrames { s.frames with transmitting := none }).setCounters
    { s.counters with
      sent := bump s.counters.sent
      readBack := if passed then s.counters.readBack else bump s.counters.readBack }

theorem exec_ownFrameEnd {x : Transmission} (hrunning : s.resetHeld = false) (hx : s.frames.transmitting = some x)
    (heard : List LineBeat) :
    exec (.ownFrameEnd heard) s = .next ((s.frameOver (x.passes heard)).ownFrameDone x.kind (x.passes heard)) := by
  refine (s.whenRunning_running (fun s => s.endOwnFrame heard) hrunning).trans ?_
  simp only [State.endOwnFrame, hx]
  rfl

theorem Transmission.passes_iff (x : Transmission) (heard : List LineBeat) :
    x.passes heard = true ↔ heard = lineBeats x.bytes := decide_eq_true_iff

theorem State.ownFrameDone_leave (h : s.line.state ≠ .offline) (passed : Bool) :
    s.ownFrameDone .leave passed = s.enter .offline := by
  rw [State.ownFrameDone, if_pos rfl, if_neg h]

theorem State.ownFrameDone_collided (h : s.line.state = .coldstart) :
    s.ownFrameDone .cold false = (s.setLine { s.line with coldSent := 0 }).enter .listen := by
  rw [State.ownFrameDone, if_neg (by decide), if_pos ⟨rfl, h, rfl⟩]

theorem State.ownFrameDone_other {kind : FrameKind} {passed : Bool} (hleave : kind ≠ .leave)
    (h : ¬(kind = .cold ∧ s.line.state = .coldstart ∧ passed = false)) : s.ownFrameDone kind passed = s := by
  rw [State.ownFrameDone, if_neg hleave, if_neg h]

/-- The end of the own frame starts no other. -/
theorem State.ownFrameDone_transmitting (s : State) (kind : FrameKind) (passed : Bool) :
    (s.ownFrameDone kind passed).frames.transmitting = s.frames.transmitting := by
  unfold State.ownFrameDone
  split
  · split
    · rfl
    · exact s.enter_transmitting .offline
  · split
    · exact State.enter_transmitting _ .listen
    · rfl

/-- Settles O15, by what the line controller does at the end of the own frame. -/
theorem ownFrameEndCountsAndReports : Obligations.OwnFrameEndCountsAndReports := by
  intro heard s x hrunning hx
  have hkeeps := ownFrameDone_keeps (s.frameOver (x.passes heard)) x.kind (x.passes heard)
  have htransmitting := (s.frameOver (x.passes heard)).ownFrameDone_transmitting x.kind (x.passes heard)
  refine ⟨_, exec_ownFrameEnd hrunning hx heard, htransmitting, ?_, ?_, hkeeps .timer (by decide),
    hkeeps .settings (by decide), hkeeps .locked (by decide), hkeeps .port (by decide), hkeeps .triggers (by decide),
    hkeeps .markers (by decide), fun hkind hjoined => ?_, fun hkind hstate hfailed => ?_, fun hkind hpassed => ?_⟩
  · rw [State.lde, htransmitting]
    rfl
  · refine (hkeeps .counters (by decide)).trans ?_
    rw [State.frameOver, State.setCounters_counters, bump_eq, bump_eq]
    simp only [Transmission.passes_iff]
  · rw [hkind, State.ownFrameDone_leave (s := s.frameOver _) hjoined]
    refine ⟨by rw [State.enter_line]; rfl, ?_, ?_, State.enter_peers_idle _ (.inr rfl), fun i hi => ?_⟩
    · rw [State.enter_line]
      simp [State.changedLine]
    · rw [State.enter_latched]
      exact getLsbD_stateChange _
    · rw [State.enter_entry_idle _ (.inr rfl) i, if_pos (by exact hi)]
      exact ⟨rfl, rfl, rfl⟩
  · have hbad : x.passes heard = false := by rw [← Bool.not_eq_true, Transmission.passes_iff]; exact hfailed
    rw [hkind, hbad, State.ownFrameDone_collided (s := s.frameOver _) hstate]
    refine ⟨by rw [State.enter_line]; rfl, by rw [State.enter_line]; rfl, ?_, by rw [State.enter_line]; rfl⟩
    rw [State.enter_latched]
    exact getLsbD_stateChange _
  · have hother : ¬(x.kind = .cold ∧ s.line.state = .coldstart ∧ x.passes heard = false) := fun ⟨h1, h2, h3⟩ =>
      hpassed ⟨h1, h2, fun h => by rw [(x.passes_iff heard).mpr h] at h3; cases h3⟩
    rw [State.ownFrameDone_other (s := s.frameOver _) hkind hother]
    rfl

/-! ### Received frames -/

theorem exec_frameEnd (hrunning : s.resetHeld = false) (rx : Reception) (first : Bool) :
    exec (.frameEnd rx first) s = .next (s.receptionEnds rx first) :=
  s.whenRunning_running (fun s => s.receptionEnds rx first) hrunning

theorem exec_lineActivityEnd (hrunning : s.resetHeld = false) (rx : Reception) :
    exec (.lineActivityEnd rx) s = .next (if s.line.state = .listen then s.receptionEnds rx false else s) :=
  s.whenRunning_running (fun s => if s.line.state = .listen then s.receptionEnds rx false else s) hrunning

/-- What LRX carries during the own transmission is no received frame (R33). -/
theorem State.receptionEnds_sending (h : s.frames.transmitting ≠ none) (rx : Reception) (first : Bool) :
    s.receptionEnds rx first = s := by
  rw [State.receptionEnds, if_pos (Option.isSome_iff_ne_none.mpr h)]

theorem State.receptionEnds_silent (h : s.frames.transmitting = none) (rx : Reception) (first : Bool) :
    s.receptionEnds rx first = s.activityEnds rx first := by
  rw [State.receptionEnds, h]
  exact if_neg Bool.false_ne_true

theorem State.activityEnds_offline (h : s.line.state = .offline) (rx : Reception) (first : Bool) :
    s.activityEnds rx first = s := by
  rw [State.activityEnds, h]

theorem State.activityEnds_listen (h : s.line.state = .listen) (rx : Reception) (first : Bool) :
    s.activityEnds rx first = s.listenEnds rx := by
  rw [State.activityEnds, h]

/-- Outside OFFLINE and LISTEN activity that is not a frame has no effect, and a bad frame is counted (R21, R35). -/
theorem State.activityEnds_activity {rx : Reception} (hlisten : s.line.state ≠ .listen)
    (hheard : hear s.settings.rate rx = .activity) (first : Bool) : s.activityEnds rx first = s := by
  unfold State.activityEnds
  cases h : s.line.state with
  | offline => rfl
  | listen => exact absurd h hlisten
  | _ => simp only [hheard]

theorem State.activityEnds_bad {rx : Reception} (hstate : s.line.state.synced = true ∨ s.line.state = .coldstart)
    (hheard : hear s.settings.rate rx = .bad) (first : Bool) : s.activityEnds rx first = s.countBad := by
  unfold State.activityEnds
  cases h : s.line.state with
  | offline => simp [h, LineState.synced] at hstate
  | listen => simp [h, LineState.synced] at hstate
  | _ => simp only [hheard]

theorem State.activityEnds_coldstart {rx : Reception} {f : Frame} (hstate : s.line.state = .coldstart)
    (hheard : hear s.settings.rate rx = .frame f) (first : Bool) : s.activityEnds rx first = s.frameInColdstart rx f := by
  simp only [State.activityEnds, hstate, hheard]

theorem State.activityEnds_synced {rx : Reception} {f : Frame} (hstate : s.line.state.synced = true)
    (hheard : hear s.settings.rate rx = .frame f) (first : Bool) : s.activityEnds rx first = s.frameInRound rx f first := by
  unfold State.activityEnds
  cases h : s.line.state with
  | integrating => simp only [hheard]
  | active => simp only [hheard]
  | passive => simp only [hheard]
  | _ => simp [h, LineState.synced] at hstate

/-- A frame out of its window, of another sender or round than line time gives, or of no other station of the round is
foreign (R22). -/
theorem State.classify_foreign {rx : Reception} {f : Frame}
    (h : rx.startBeat < 16 ∨ 48 < rx.startBeat ∨ f.sender ≠ rx.startSlot ∨ s.settings.size ≤ f.sender.val ∨
      f.round ≠ rx.startRound ∨ f.sender = s.timer.station) : s.classify rx f = .foreign := if_pos h

theorem State.hearForeign_eq (s : State) (f : Frame) :
    s.hearForeign f =
      { s with
        counters := { s.counters with foreign := BitVec.ofNat 16 (min 65535 (s.counters.foreign.toNat + 1)) }
        frames :=
          { s.frames with
            foreign :=
              if f.sender.val < s.settings.size then s.frames.foreign ||| stationBit f.sender
              else s.frames.foreign } } := by
  rw [← bump_eq]
  by_cases h : f.sender.val < s.settings.size
  · rw [State.hearForeign, if_pos (by exact h), if_pos h]
    rfl
  · rw [State.hearForeign, if_neg (by exact h), if_neg h]
    rfl

theorem State.fromPeer_iff (s : State) (f : Frame) :
    s.fromPeer f = true ↔ f.sender.val < s.settings.size ∧ f.sender ≠ s.timer.station := decide_eq_true_iff

/-- COLDSTART takes no notice of a foreign frame unless it is a COLD frame that it adopts (R45, R46). -/
theorem State.frameInColdstart_foreign {rx : Reception} {f : Frame} (hclass : s.classify rx f = .foreign)
    (h : ¬(f.kind = .cold ∧ f.sender.val < s.timer.station.val ∧ f.sender.val < s.settings.size)) :
    s.frameInColdstart rx f = s.hearForeign f := by
  simp only [State.frameInColdstart, hclass]
  split
  · next hpeer =>
    have hkept : (s.hearForeign f).timer = s.timer := by rw [State.hearForeign_eq]
    have hlow : ¬(f.kind = .cold ∧ f.sender.val < s.timer.station.val) := fun hc =>
      h ⟨hc.1, hc.2, (s.fromPeer_iff f |>.mp hpeer).1⟩
    rw [State.coldFrameHeard, if_neg (by simp), hkept, if_neg hlow]
  · rfl

/-- Settles O16, by the state of the line controller and what was heard. -/
theorem frameEndCountsBadAndForeign : Obligations.FrameEndCountsBadAndForeign := by
  refine ⟨by decide, fun rx first s hrunning => ⟨fun hsending i hi => ?_, fun hoffline => ?_, fun hown hlisten => ?_,
    fun hsilent hstate => ⟨fun hheard => ?_, fun hheard => ?_, fun f hheard hforeign hnot => ?_⟩⟩⟩
  · rcases hi with rfl | rfl
    · rw [exec_frameEnd hrunning, State.receptionEnds_sending hsending]
    · rw [exec_lineActivityEnd hrunning, State.receptionEnds_sending hsending, ite_self]
  · rw [exec_frameEnd hrunning]
    by_cases hsending : s.frames.transmitting = none
    · rw [State.receptionEnds_silent hsending, State.activityEnds_offline hoffline]
    · rw [State.receptionEnds_sending hsending]
  · have hheard : hear s.settings.rate rx = .activity := if_pos (.inr (.inl hown))
    rw [exec_frameEnd hrunning]
    by_cases hsending : s.frames.transmitting = none
    · rw [State.receptionEnds_silent hsending, State.activityEnds_activity hlisten hheard]
    · rw [State.receptionEnds_sending hsending]
  · have hlisten : s.line.state ≠ .listen := fun h => by simp [h, LineState.synced] at hstate
    rw [exec_frameEnd hrunning, State.receptionEnds_silent hsilent, State.activityEnds_activity hlisten hheard]
  · rw [exec_frameEnd hrunning, State.receptionEnds_silent hsilent, State.activityEnds_bad hstate hheard, ← bump_eq]
    rfl
  · have hclass := State.classify_foreign hforeign
    rw [exec_frameEnd hrunning, State.receptionEnds_silent hsilent, ← State.hearForeign_eq]
    rcases hstate with hsynced | hcold
    · rw [State.activityEnds_synced hsynced hheard, State.frameInRound, hclass]
    · rw [State.activityEnds_coldstart hcold hheard,
        State.frameInColdstart_foreign hclass (fun h => hnot ⟨hcold, h.1, h.2.1, h.2.2⟩)]

/-! ### LISTEN -/

theorem State.receptionEnds_listen {rx : Reception} (hsilent : s.frames.transmitting = none) (hlisten : s.line.state = .listen)
    (first : Bool) {i : Instr} (hrunning : s.resetHeld = false) (hi : i = .frameEnd rx first ∨ i = .lineActivityEnd rx) :
    exec i s = .next (s.listenEnds rx) := by
  rcases hi with rfl | rfl
  · rw [exec_frameEnd hrunning, State.receptionEnds_silent hsilent, State.activityEnds_listen hlisten]
  · rw [exec_lineActivityEnd hrunning, if_pos hlisten, State.receptionEnds_silent hsilent,
      State.activityEnds_listen hlisten]

/-- A frame in LISTEN that is not a usable SYNC or COLD frame restarts the listen timer (R40). -/
theorem State.frameInListen_unusable {f : Frame}
    (h : s.settings.size ≤ f.sender.val ∨ f.sender = s.timer.station ∨ f.kind = .leave) :
    s.frameInListen f = s.countForeign.restartListen := by
  refine if_neg fun hc => ?_
  obtain ⟨hin, hother⟩ := (State.fromPeer_iff _ f).mp hc.1
  rcases h with h | h | h
  · exact absurd hin (Nat.not_lt.mpr h)
  · exact hother h
  · exact hc.2 h

/-- Settles O19. -/
theorem lineActivityRestartsListenTimer : Obligations.LineActivityRestartsListenTimer := by
  intro rx first s i hrunning hi
  refine ⟨fun hlisten hsilent hunusable => ?_, fun hlisten => ?_⟩
  · rw [State.receptionEnds_listen hsilent hlisten first hrunning hi, State.listenEnds]
    cases hheard : hear s.settings.rate rx with
    | activity => rfl
    | bad => rw [← bump_eq]; rfl
    | frame f =>
      simp only [State.frameInListen_unusable (hunusable f hheard), reduceCtorEq, if_false, or_self, ← bump_eq]
      rfl
  · rw [exec_lineActivityEnd hrunning, if_neg hlisten]

theorem exec_listenTimerExpiry (hrunning : s.resetHeld = false) :
    exec .listenTimerExpiry s = .next (if s.line.state = .listen then s.expireListen else s) :=
  s.whenRunning_running (fun s => if s.line.state = .listen then s.expireListen else s) hrunning

/-- A cold start before its frame is assembled: round 0, own slot, beat 0 (R12). -/
def State.coldStarted (s : State) : State :=
  ((s.setLine { s.line with coldSent := 0 }).turned .coldstart).jump 0#16 s.timer.station 0

theorem State.coldStarted_keeps (s : State) : Keeps (.timer :: .frames :: turning) s s.coldStarted :=
  (((setLine_keeps s _).mono _).trans ((State.turned_keeps _ .coldstart).mono _)).trans
    (((setTimer_keeps _ _).mono _).trans (((setFrames_keeps _ _).mono _).trans ((setFrames_keeps _ _).mono _)))

theorem State.coldStarted_line (s : State) :
    s.coldStarted.line = (s.setLine { s.line with coldSent := 0 }).changedLine .coldstart := State.turned_line _ .coldstart

/-- The line timer of a cold start. -/
theorem State.coldStarted_timer (s : State) :
    s.coldStarted.timer =
      { s.timer with
        round := 0#16, slot := s.timer.station, beat := 0, correction := none, boundary := none, opening := false
        ownOpening := false } := by
  have hturned : ((s.setLine { s.line with coldSent := 0 }).turned .coldstart).timer = s.timer :=
    State.turned_keeps _ .coldstart .timer (by decide)
  rw [State.coldStarted, State.jump_timer, hturned]

theorem State.turned_latched (s : State) (target : LineState) :
    (s.turned target).latches.latched = s.latches.latched ||| 0x80#8 := by
  have hsettled : ((s.setLine (s.changedLine target)).settleChannels).latches = s.latches :=
    settleChannels_keeps (s.setLine (s.changedLine target)) .latches (by decide)
  rw [State.turned, State.raise, State.setLatches_latches, hsettled]
  rfl

theorem State.coldStarted_latched (s : State) : s.coldStarted.latches.latched = s.latches.latched ||| 0x80#8 :=
  State.turned_latched _ .coldstart

theorem State.expireListen_eq (s : State) :
    s.expireListen = s.coldStarted.setFrames { s.coldStarted.frames with assembled := some s.coldStarted.ownFrame } := by
  have hsends : s.coldStarted.line.state.transmits = true := by rw [State.coldStarted_line]; rfl
  rw [← State.assemble_sends hsends, State.expireListen, State.enter_other _ (by decide) (by decide), State.coldStarted]
  rfl

/-- Settles O20. -/
theorem listenExpiryStartsCold : Obligations.ListenExpiryStartsCold := by
  intro s hrunning
  rw [exec_listenTimerExpiry hrunning]
  refine ⟨fun hlisten => by rw [if_neg hlisten], fun hlisten hleave => ?_⟩
  have hkeeps := s.coldStarted_keeps
  have hline := s.coldStarted_line
  have htimer := s.coldStarted_timer
  have hview : s.coldStarted.frames.view = 0#16 := rfl
  have hlatched : s.coldStarted.latches.latched = s.latches.latched ||| 0x80#8 := s.coldStarted_latched
  rw [if_pos hlisten, State.expireListen_eq]
  generalize s.coldStarted = c at *
  have hkind : c.ownKind = .cold := by
    rw [State.ownKind, hline]
    simp [State.changedLine, hleave]
  have hround : c.timer.carried = 0#16 := (RoundTimer.carried_of_none (by rw [htimer])).trans (by rw [htimer])
  refine ⟨_, rfl, htimer, congrArg LineController.state hline, congrArg LineController.listen hline,
    congrArg LineController.coldSent hline, ?_,
    ⟨c.ownFrame, rfl, hkind, by rw [State.ownFrame, htimer], hround, hview⟩,
    hkeeps .entries (by decide), hkeeps .completions (by decide), hkeeps .counters (by decide),
    hkeeps .settings (by decide), hkeeps .peers (by decide), hkeeps .triggers (by decide), hkeeps .markers (by decide),
    hkeeps .port (by decide)⟩
  rw [State.setFrames_latches, hlatched]
  exact getLsbD_stateChange _

/-! ### Adoption -/

/-- Adoption, in its parts: a jump, and INTEGRATING over the round that follows (R11, R41, R63). -/
theorem State.adopt_eq (h : s.peers.tracking = false) (f : Frame) :
    s.adopt f =
      ((((s.jump f.round f.sender (32 + (80 + 40 * f.arrivals.length))).turned .integrating).setPeers
        { s.peers with tracking := true, startRound := some (f.round + 1#16) })).setLine
        { (s.jump f.round f.sender (32 + (80 + 40 * f.arrivals.length))).changedLine .integrating with
          coldSent := 0, integration := some (f.round + 1#16) } := by
  have hline := (s.jump f.round f.sender (32 + (80 + 40 * f.arrivals.length))).turned_line .integrating
  have hpeers : ((s.jump f.round f.sender (32 + (80 + 40 * f.arrivals.length))).turned .integrating).peers = s.peers :=
    State.turned_keeps _ .integrating .peers (by decide)
  rw [State.adopt, State.enter_other _ (by decide) (by decide)]
  generalize hu : (s.jump f.round f.sender (32 + (80 + 40 * f.arrivals.length))).turned .integrating = v at *
  have hv : (s.jump f.round f.sender (Config.sendOffset + frameBeats f.arrivals.length)).turned .integrating = v := hu
  have hidle : ¬v.peers.tracking = true := by rw [hpeers, h]; exact Bool.false_ne_true
  rw [hv, State.startTracking, if_neg hidle, hpeers, ← hline]
  rfl

/-- What adoption leaves: everything but line time, the records of the round, the line controller, the peer table's start,
the latches and the forced channels (R13, R155). -/
structure State.Adopted (s t : State) (f : Frame) : Prop where
  keeps : Keeps (.timer :: .frames :: .peers :: turning) s t
  timer : t.timer =
    { s.timer with
      round := f.round, slot := f.sender, beat := 32 + (80 + 40 * f.arrivals.length), correction := none
      boundary := none, opening := false, ownOpening := false }
  line : t.line.state = .integrating ∧ t.line.listen = none ∧ t.line.integration = some (f.round + 1#16) ∧
    t.line.coldSent = 0
  peers : t.peers = { s.peers with tracking := true, startRound := some (f.round + 1#16) }
  latched : t.latches.latched = s.latches.latched ||| 0x80#8
  frames : t.frames = { s.frames with good := 0#16, foreign := 0#16, mark := false, view := 0#16, assembled := none }
  channel : ∀ k, t.channel k = (s.channel k).settle false

theorem State.adopt_adopted (h : s.peers.tracking = false) (f : Frame) : s.Adopted (s.adopt f) f := by
  rw [State.adopt_eq h]
  have hjump : Keeps [.timer, .frames] s (s.jump f.round f.sender (32 + (80 + 40 * f.arrivals.length))) :=
    ((setTimer_keeps s _).mono _).trans (((setFrames_keeps _ _).mono _).trans ((setFrames_keeps _ _).mono _))
  have hturned := (s.jump f.round f.sender (32 + (80 + 40 * f.arrivals.length))).turned_keeps .integrating
  have hkeeps : Keeps (.timer :: .frames :: .peers :: turning) s
      ((s.jump f.round f.sender (32 + (80 + 40 * f.arrivals.length))).turned .integrating) :=
    (hjump.mono _).trans (hturned.mono _)
  have htimer := hturned .timer (by decide)
  have hframes := hturned .frames (by decide)
  have hlatched := (s.jump f.round f.sender (32 + (80 + 40 * f.arrivals.length))).turned_latched .integrating
  have hchannel := (s.jump f.round f.sender (32 + (80 + 40 * f.arrivals.length))).turned_channel .integrating
  generalize (s.jump f.round f.sender (32 + (80 + 40 * f.arrivals.length))).turned .integrating = v at *
  exact
    { keeps := hkeeps.trans (((setPeers_keeps v _).mono _).trans ((setLine_keeps _ _).mono _))
      timer := htimer
      line := ⟨rfl, rfl, rfl, rfl⟩
      peers := rfl
      latched := hlatched
      frames := hframes
      channel := hchannel }

/-- A frame that passes every test of R22 is good. -/
theorem State.classify_iff (s : State) (rx : Reception) (f : Frame) :
    s.classify rx f = .good ↔ 16 ≤ rx.startBeat ∧ rx.startBeat ≤ 48 ∧ f.sender = rx.startSlot ∧
      f.sender.val < s.settings.size ∧ f.round = rx.startRound ∧ f.sender ≠ s.timer.station := by
  by_cases h : rx.startBeat < 16 ∨ 48 < rx.startBeat ∨ f.sender ≠ rx.startSlot ∨ s.settings.size ≤ f.sender.val ∨
      f.round ≠ rx.startRound ∨ f.sender = s.timer.station
  · rw [State.classify_foreign h]
    refine ⟨fun hc => (nomatch hc), fun ⟨h1, h2, h3, h4, h5, h6⟩ => ?_⟩
    rcases h with h | h | h | h | h | h
    · omega
    · omega
    · exact absurd h3 h
    · omega
    · exact absurd h5 h
    · exact absurd h h6
  · have hgood : s.classify rx f = .good := if_neg h
    rw [hgood]
    simp only [not_or, Nat.not_lt, Nat.not_le, ne_eq, Decidable.not_not] at h
    exact ⟨fun _ => h, fun _ => rfl⟩

theorem State.hearGood_eq (s : State) (rx : Reception) (f : Frame) :
    s.hearGood rx f =
      { s with
        counters := { s.counters with good := BitVec.ofNat 16 (min 65535 (s.counters.good.toNat + 1)) }
        frames := { s.frames with good := s.frames.good ||| stationBit f.sender }
        timer := { s.timer with correction := some ((rx.startBeat : Int) - 32) } } := by
  rw [← bump_eq]
  rfl

/-- A frame that COLDSTART classes and counts (R22, R26). -/
def State.classed (s : State) (rx : Reception) (f : Frame) : State :=
  match s.classify rx f with
  | .good => s.hearGood rx f
  | .foreign => s.hearForeign f

theorem State.frameInColdstart_eq (s : State) (rx : Reception) (f : Frame) :
    s.frameInColdstart rx f =
      if s.fromPeer f = true then (s.classed rx f).coldFrameHeard f (s.classify rx f) else s.classed rx f := by
  unfold State.frameInColdstart State.classed
  cases s.classify rx f <;> rfl

theorem State.classed_keeps (s : State) (rx : Reception) (f : Frame) :
    Keeps [.timer, .frames, .counters] s (s.classed rx f) := by
  unfold State.classed
  split
  · exact ((setCounters_keeps s _).mono _).trans (((setFrames_keeps _ _).mono _).trans ((setTimer_keeps _ _).mono _))
  · exact ((setCounters_keeps s _).mono _).trans (Keeps.ite ((setFrames_keeps _ _).mono _) (Keeps.refl _ _))

theorem State.classed_station (s : State) (rx : Reception) (f : Frame) :
    (s.classed rx f).timer = { s.timer with correction := (s.classed rx f).timer.correction } := by
  unfold State.classed
  split
  · rfl
  · rw [State.hearForeign_eq]

theorem State.classed_counters (s : State) (rx : Reception) (f : Frame) :
    (s.classed rx f).counters =
      { s.counters with
        good :=
          if s.classify rx f = .good then BitVec.ofNat 16 (min 65535 (s.counters.good.toNat + 1)) else s.counters.good
        foreign :=
          if s.classify rx f = .good then s.counters.foreign
          else BitVec.ofNat 16 (min 65535 (s.counters.foreign.toNat + 1)) } := by
  unfold State.classed
  cases s.classify rx f with
  | good => rw [State.hearGood_eq]; rfl
  | foreign => rw [State.hearForeign_eq]; rfl

/-- A frame that comes to be adopted is counted first, as foreign in LISTEN and by its class in COLDSTART (R22, R25, R26). -/
theorem exec_adopts {rx : Reception} {first : Bool} {f : Frame} {i : Instr} (hrunning : s.resetHeld = false)
    (hsilent : s.frames.transmitting = none) (hheard : hear s.settings.rate rx = .frame f)
    (hin : f.sender.val < s.settings.size) (hother : f.sender ≠ s.timer.station)
    (h : (s.line.state = .listen ∧ f.kind ≠ .leave ∧ (i = .frameEnd rx first ∨ i = .lineActivityEnd rx)) ∨
      (s.line.state = .coldstart ∧ f.kind = .cold ∧ f.sender.val < s.timer.station.val ∧ i = .frameEnd rx first)) :
    exec i s = .next ((if s.line.state = .coldstart then s.classed rx f else s.countForeign).adopt f) := by
  have hpeer : s.fromPeer f = true := (s.fromPeer_iff f).mpr ⟨hin, hother⟩
  rcases h with ⟨hlisten, hkind, hi⟩ | ⟨hcold, hkind, hlow, rfl⟩
  · have hne : ¬s.line.state = .coldstart := by rw [hlisten]; decide
    rw [State.receptionEnds_listen hsilent hlisten first hrunning hi, State.listenEnds, hheard, if_neg hne]
    simp only [State.frameInListen]
    rw [if_pos ⟨hpeer, hkind⟩]
  · have hstation : (s.classed rx f).timer.station = s.timer.station := by rw [State.classed_station]
    rw [exec_frameEnd hrunning, State.receptionEnds_silent hsilent, State.activityEnds_coldstart hcold hheard, if_pos hcold,
      State.frameInColdstart_eq, if_pos hpeer, State.coldFrameHeard, if_neg (by simp [hkind]),
      if_pos ⟨hkind, by rw [hstation]; exact hlow⟩]

/-- Settles O18: the frame is counted, and then adopted. -/
theorem usableFrameIsAdopted : Obligations.UsableFrameIsAdopted := by
  intro rx first s f i hrunning hsilent hheard hin hother hidle hstate
  have hcounters (good : Bool) (hgood : good = true ↔ s.line.state = .coldstart ∧ 16 ≤ rx.startBeat ∧ rx.startBeat ≤ 48 ∧
      f.sender = rx.startSlot ∧ f.round = rx.startRound) :
      (if s.line.state = .coldstart then s.classed rx f else s.countForeign).counters =
        { s.counters with
          good := if good = true then BitVec.ofNat 16 (min 65535 (s.counters.good.toNat + 1)) else s.counters.good
          foreign :=
            if good = true then s.counters.foreign
            else BitVec.ofNat 16 (min 65535 (s.counters.foreign.toNat + 1)) } := by
    by_cases hcold : s.line.state = .coldstart
    · have hclass : s.classify rx f = .good ↔ good = true := by
        rw [hgood, State.classify_iff]
        simp only [hcold, hin, hother, ne_eq, not_false_eq_true, true_and, and_true]
      rw [if_pos hcold, State.classed_counters]
      simp only [hclass]
    · have hbad : ¬good = true := fun h => hcold (hgood.mp h).1
      rw [if_neg hcold, if_neg hbad, if_neg hbad, ← bump_eq]
      rfl
  have hkeeps : Keeps [.timer, .frames, .counters] s
      (if s.line.state = .coldstart then s.classed rx f else s.countForeign) :=
    Keeps.ite (s.classed_keeps rx f) ((setCounters_keeps s _).mono _)
  have htimer : (if s.line.state = .coldstart then s.classed rx f else s.countForeign).timer =
      { s.timer with
        correction := (if s.line.state = .coldstart then s.classed rx f else s.countForeign).timer.correction } := by
    split
    · exact s.classed_station rx f
    · rfl
  refine ⟨_, exec_adopts hrunning hsilent hheard hin hother hstate, ?_⟩
  generalize (if s.line.state = .coldstart then s.classed rx f else s.countForeign) = u at *
  have hpeers : u.peers = s.peers := hkeeps .peers (by decide)
  obtain ⟨hkeeps', htimer', hline, hpeers', hlatched, hframes, hchannel⟩ :=
    State.adopt_adopted (s := u) (by rw [hpeers, hidle]) f
  have hwhole : Keeps (.counters :: .timer :: .frames :: .peers :: turning) s (u.adopt f) :=
    (hkeeps.mono _).trans (hkeeps'.mono _)
  have hkept (k : ChannelIndex) : u.channel k = s.channel k := State.channel_congr (hkeeps .channels (by decide)) k
  generalize u.adopt f = t at *
  obtain ⟨hstate', hlisten', hintegration, hcoldSent⟩ := hline
  refine ⟨by rw [htimer', htimer], fun good hgood => ?_, hstate', hlisten', hintegration, hcoldSent, by rw [hpeers'],
    by rw [hpeers'], by rw [hpeers', hpeers], ?_, by rw [hframes], by rw [hframes], by rw [hframes], by rw [hframes],
    hwhole .entries (by decide), hwhole .completions (by decide), hwhole .settings (by decide),
    hwhole .triggers (by decide), hwhole .markers (by decide), hwhole .port (by decide), fun k => ?_⟩
  · rw [← hcounters good hgood]
    exact hkeeps' .counters (by decide)
  · rw [hlatched]
    exact getLsbD_stateChange _
  · rw [hchannel, hkept]
    exact ⟨rfl, rfl, rfl, rfl, rfl⟩

end Sys2Proof.Machine
end

section
/-!
PROOFS about the delivery of a good frame: what the reactions of the rendezvous table do not look at, the two orders in which
they come, and what a good frame does in COLDSTART (R24, R45, R46, R121).
-/

namespace Sys2Proof.Machine

-- One lemma after another: side by side, the evaluations of `decide` would each hold a thread.
set_option Elab.async false

variable {s t u : State}

/-! ### What the rendezvous table's reactions do not look at -/

/-- Other values of what no reaction of the rendezvous table looks at: the pending correction, the line controller, the good
senders and their count, the peer table and the port, and events raised besides. -/
structure Dress where
  correction : Option Int
  line : LineController
  good : StationSet
  goodCount : Counter
  peers : PeerTable
  port : Port
  events : EventSet
  joined : StationSet
  lost : StationSet

/-- The state with these other values. -/
def State.dressed (u : State) (d : Dress) : State :=
  { u with
    timer := { u.timer with correction := d.correction }
    line := d.line
    frames := { u.frames with good := d.good }
    counters := { u.counters with good := d.goodCount }
    peers := d.peers
    port := d.port
    latches := u.latches.add d.events d.joined d.lost }

theorem Latches.add_comm (l : Latches) (e e' : EventSet) (j j' k k' : StationSet) :
    (l.add e j k).add e' j' k' = (l.add e' j' k').add e j k := by
  cases l with
  | mk latched joined lost report =>
    cases report <;> simp [Latches.add, BitVec.or_assoc, BitVec.or_comm e, BitVec.or_comm j, BitVec.or_comm k]

theorem Latches.add_none (l : Latches) : l.add 0#8 0#16 0#16 = l := by
  cases l with
  | mk latched joined lost report => cases report <;> simp [Latches.add]

section

variable (d : Dress)

theorem State.foldl_dressed {α : Type} {f : State → α → State} (h : ∀ u a, f (u.dressed d) a = (f u a).dressed d)
    (l : List α) (u : State) : l.foldl f (u.dressed d) = (l.foldl f u).dressed d :=
  List.foldl_hom (fun u : State => u.dressed d) h

theorem State.ite_dressed {p : Prop} [Decidable p] {a b a' b' : State} (ha : a' = a.dressed d) (hb : b' = b.dressed d) :
    (if p then a' else b') = (if p then a else b).dressed d := by
  split
  · exact ha
  · exact hb

theorem State.raise_dressed (u : State) (e : Event) : (u.dressed d).raise e = (u.raise e).dressed d :=
  congrArg (fun l => { u.dressed d with latches := l }) (Latches.add_comm u.latches d.events e.bit d.joined 0#16 d.lost 0#16)

theorem State.discardStaged_dressed (u : State) (i : EntryIndex) :
    (u.dressed d).discardStaged i = (u.discardStaged i).dressed d :=
  State.foldl_dressed d (fun _ _ => rfl) allChannels u

theorem State.closeEntry_dressed (u : State) (i : EntryIndex) (o : EntryOutcome) (r : Option Reason) :
    (u.dressed d).closeEntry i o r = (u.closeEntry i o r).dressed d :=
  State.discardStaged_dressed d
    ((u.setEntry i { u.entry i with state := .done, outcome := some o, reason := r }).leaveAnnounce i) i

theorem State.testCompletion_dressed (u : State) (i : EntryIndex) :
    (u.dressed d).testCompletion i = (u.testCompletion i).dressed d := by
  unfold State.testCompletion
  refine State.ite_dressed d (State.ite_dressed d rfl ?_) rfl
  change (match (u.entry i).record.late with
    | .skip => (u.dressed d).closeEntry i .missed none
    | .apply => _) = _
  cases (u.entry i).record.late with
  | skip => exact State.closeEntry_dressed d u i .missed none
  | apply => rfl

theorem State.recordArrival_dressed (u : State) (i : EntryIndex) (k : Station) (a : ArrivalEntry) :
    (u.dressed d).recordArrival i k a = (u.recordArrival i k a).dressed d := by
  have hentry : (u.dressed d).entry i = u.entry i := rfl
  unfold State.recordArrival
  simp only [hentry]
  cases (u.entry i).records[k] with
  | none =>
    exact State.testCompletion_dressed d
      (u.setEntry i { u.entry i with records := (u.entry i).records.set k (some a.announce) }) i
  | some r => exact State.ite_dressed d rfl rfl

theorem State.takeArrival_dressed (u : State) (i : EntryIndex) (k : Station) (a : ArrivalEntry) :
    (u.dressed d).takeArrival i k a = (u.takeArrival i k a).dressed d := by
  have hentry : (u.dressed d).entry i = u.entry i := rfl
  unfold State.takeArrival
  simp only [hentry]
  refine State.ite_dressed d rfl (State.ite_dressed d (State.ite_dressed d ?_ ?_) ?_)
  · exact State.recordArrival_dressed d u i k a
  · exact State.raise_dressed d u .leadConflict
  · cases (u.entry i).recordedLead with
    | none =>
      exact State.recordArrival_dressed d (u.setEntry i { u.entry i with recordedLead := some a.lead }) i k a
    | some lead => exact State.ite_dressed d (State.recordArrival_dressed d u i k a) (State.raise_dressed d u .leadConflict)

theorem State.hearArrival_dressed (k : Station) (round : Round) (u : State) (a : ArrivalEntry) :
    State.hearArrival k round (u.dressed d) a = (State.hearArrival k round u a).dressed d := by
  have hentry (i : EntryIndex) : (u.dressed d).entry i = u.entry i := rfl
  unfold State.hearArrival
  simp only [hentry]
  refine State.ite_dressed d (State.ite_dressed d rfl ?_) rfl
  cases allSixteen.find? fun i => (u.entry i).pending && (u.entry i).named a with
  | none => exact State.ite_dressed d rfl (State.raise_dressed d u .epochConflict)
  | some i => exact State.takeArrival_dressed d u i k a

theorem State.tableReaction_dressed {work : State → State} (h : ∀ u, work (u.dressed d) = (work u).dressed d) (u : State) :
    (u.dressed d).tableReaction work = (u.tableReaction work).dressed d := by
  rw [State.tableReaction, h]
  rfl

/-- The reaction to the arrival entries of a frame looks at none of these values. -/
theorem State.hearArrivals_dressed (u : State) (k : Station) (round : Round) (l : List ArrivalEntry) :
    (u.dressed d).hearArrivals k round l = (u.hearArrivals k round l).dressed d :=
  State.tableReaction_dressed d (State.foldl_dressed d (State.hearArrival_dressed d k round) l) u

/-- Nor does the reaction to a loss notice. -/
theorem State.lossNotice_dressed (u : State) (lost : StationSet) :
    (u.dressed d).lossNotice lost = (u.lossNotice lost).dressed d := by
  have hclose (v : State) (i : EntryIndex) :
      (if ((v.dressed d).entry i).state = .armed ∧ ((v.dressed d).entry i).lacks lost = true then
        (v.dressed d).closeEntry i .abandoned (some .peerLost) else v.dressed d) =
      (if (v.entry i).state = .armed ∧ (v.entry i).lacks lost = true then
        v.closeEntry i .abandoned (some .peerLost) else v).dressed d :=
    State.ite_dressed d (State.closeEntry_dressed d v i .abandoned (some .peerLost)) rfl
  exact State.tableReaction_dressed d (State.foldl_dressed d hclose allSixteen) u

end

/-! ### Conflicts are the one count of the rendezvous table -/

/-- Of the counters only that of the conflicts may differ (R114). -/
def State.CountsConflicts (s t : State) : Prop := t.counters = { s.counters with conflicts := t.counters.conflicts }

theorem State.CountsConflicts.of_eq (h : t.counters = s.counters) : s.CountsConflicts t := by
  rw [State.CountsConflicts, h]

theorem State.CountsConflicts.trans (h : s.CountsConflicts t) (h' : t.CountsConflicts u) : s.CountsConflicts u := by
  rw [State.CountsConflicts] at *
  rw [h', h]

theorem State.recordArrival_counts (s : State) (i : EntryIndex) (k : Station) (a : ArrivalEntry) :
    s.CountsConflicts (s.recordArrival i k a) := by
  unfold State.recordArrival
  dsimp only
  split
  · exact .of_eq (testCompletion_keeps _ i .counters (by decide))
  · split
    · exact .of_eq rfl
    · rfl

theorem State.takeArrival_counts (s : State) (i : EntryIndex) (k : Station) (a : ArrivalEntry) :
    s.CountsConflicts (s.takeArrival i k a) := by
  unfold State.takeArrival
  dsimp only
  split
  · exact .of_eq rfl
  split
  · split
    · exact s.recordArrival_counts i k a
    · exact .of_eq rfl
  · split
    · exact State.recordArrival_counts (s.setEntry i { s.entry i with recordedLead := some a.lead }) i k a
    · split
      · exact s.recordArrival_counts i k a
      · exact .of_eq rfl

theorem State.hearArrival_counts (k : Station) (round : Round) (s : State) (a : ArrivalEntry) :
    s.CountsConflicts (s.hearArrival k round a) := by
  unfold State.hearArrival
  split
  · split
    · exact .of_eq rfl
    · split
      · exact s.takeArrival_counts _ k a
      · split <;> exact .of_eq rfl
  · exact .of_eq rfl

theorem State.hearArrivals_counts (s : State) (k : Station) (round : Round) (l : List ArrivalEntry) :
    s.CountsConflicts (s.hearArrivals k round l) := by
  have hfold (u : State) : u.CountsConflicts (l.foldl (State.hearArrival k round) u) := by
    induction l generalizing u with
    | nil => exact .of_eq rfl
    | cons a l ih => exact (u.hearArrival_counts k round a).trans (ih _)
  exact (hfold s).trans (.of_eq rfl)

/-! ### A good frame in the synced states -/

/-- What a good frame sets besides the rendezvous table: the correction, the alone flag, the good senders and their count,
the sender's record, and the end of the instant (R9, R23, R49, R64). -/
def State.frameDress (s : State) (rx : Reception) (f : Frame) : Dress where
  correction := some ((rx.startBeat : Int) - 32)
  line := { s.line with alone := if s.line.state = .active then false else s.line.alone }
  good := s.frames.good ||| stationBit f.sender
  goodCount := BitVec.ofNat 16 (min 65535 (s.counters.good.toNat + 1))
  peers :=
    { s.peers with
      records := s.peers.records.set f.sender
        { s.peer f.sender with lastRound := some f.round, lastView := some f.view } }
  port := { s.port with closedNow := [] }
  events := 0#8
  joined := 0#16
  lost := 0#16

/-- What the departure of the sender adds: the departed mark, and PEER_LOST (R65). -/
def Dress.departing (d : Dress) (k : Station) : Dress :=
  { d with
    peers := { d.peers with records := d.peers.records.set k { d.peers.records[k] with departed := true, present := false } }
    events := 0x20#8, joined := 0#16, lost := stationBit k }

theorem stationBit_ne_zero (k : Station) : stationBit k ≠ 0#16 := by
  revert k
  decide

theorem State.clearAlone_eq (s : State) :
    s.clearAlone = s.setLine { s.line with alone := if s.line.state = .active then false else s.line.alone } := by
  unfold State.clearAlone
  split <;> rfl

theorem State.frameDress_eq (s : State) (rx : Reception) (f : Frame) (h : s.peers.tracking = true) :
    ((s.passInstant.hearGood rx f).clearAlone).hearPeer f = s.dressed (s.frameDress rx f) := by
  have hlatches : s.latches = s.latches.add 0#8 0#16 0#16 := s.latches.add_none.symm
  rw [State.hearGood_eq, State.clearAlone_eq, State.hearPeer, if_pos (by exact h)]
  exact congrArg
    (fun l => { s.dressed (s.frameDress rx f) with latches := l }) hlatches

theorem State.departPeer_dressed (u : State) (d : Dress) (f : Frame) (hevents : d.events = 0#8)
    (hjoined : d.joined = 0#16) (hlost : d.lost = 0#16) (htracking : d.peers.tracking = true)
    (hhere : (d.peers.records[f.sender]).departed = false) :
    (u.dressed d).departPeer f = (u.lossNotice (stationBit f.sender)).dressed (d.departing f.sender) := by
  rw [State.departPeer, if_pos ⟨htracking, hhere⟩, ← State.lossNotice_dressed (d.departing f.sender) u]
  have hraised : ((u.dressed d).setPeer f.sender
      { (u.dressed d).peer f.sender with departed := true, present := false }).raisePeers 0#16 (stationBit f.sender) =
      u.dressed (d.departing f.sender) := by
    have hlatches : (u.latches.add 0#8 0#16 0#16).add (0x20#8) 0#16 (stationBit f.sender) =
        u.latches.add 0x20#8 0#16 (stationBit f.sender) := by rw [Latches.add_none]
    rw [State.raisePeers, if_pos rfl, if_neg (stationBit_ne_zero f.sender)]
    refine Eq.trans ?_ (congrArg (fun l => { u.dressed (d.departing f.sender) with latches := l }) hlatches)
    cases d
    subst hevents hjoined hlost
    rfl
  rw [hraised]

theorem State.departPeer_gone (u : State) (d : Dress) (f : Frame) (hgone : (d.peers.records[f.sender]).departed = true) :
    (u.dressed d).departPeer f = u.dressed d := by
  have hnot : ¬((u.dressed d).peers.tracking = true ∧ ((u.dressed d).peer f.sender).departed = false) := fun h => by
    have hdeparted : (d.peers.records[f.sender]).departed = false := h.2
    rw [hgone] at hdeparted
    cases hdeparted
  exact if_neg hnot

/-- A good frame that ends in a synced state: the two reactions of the rendezvous table, in their order, on a state that
differs in nothing that they look at (R24, R121). -/
theorem State.deliverGood_dressed (s : State) (rx : Reception) (f : Frame) (first : Bool) (htracking : s.peers.tracking = true)
    {notice arrivals : State → State}
    (hnotice : notice = fun x => if (s.peer f.sender).departed = false then x.lossNotice (stationBit f.sender) else x)
    (harrivals : arrivals = fun x => x.hearArrivals f.sender f.round f.arrivals) :
    (((s.passInstant.hearGood rx f).clearAlone).deliverGood f first) =
      (if f.kind = .leave then (if first = true then arrivals (notice s) else notice (arrivals s)) else arrivals s).dressed
        (if f.kind = .leave ∧ (s.peer f.sender).departed = false then (s.frameDress rx f).departing f.sender
        else s.frameDress rx f) := by
  have hsender : (s.frameDress rx f).peers.records[f.sender] =
      { s.peer f.sender with lastRound := some f.round, lastView := some f.view } := by
    simp [State.frameDress]
  simp only [State.deliverGood, s.frameDress_eq rx f htracking]
  generalize hd : s.frameDress rx f = d at *
  subst hnotice harrivals
  by_cases hkind : f.kind = .leave
  · cases hgone : (s.peer f.sender).departed with
    | true =>
      have hleft (u : State) : (u.dressed d).departPeer f = u.dressed d :=
        State.departPeer_gone u d f (by rw [hsender]; exact hgone)
      simp only [hkind, hleft, State.hearArrivals_dressed, reduceCtorEq, and_false, if_false, ite_self]
    | false =>
      have hleft (u : State) :
          (u.dressed d).departPeer f = (u.lossNotice (stationBit f.sender)).dressed (d.departing f.sender) :=
        State.departPeer_dressed u d f (by rw [← hd]; rfl) (by rw [← hd]; rfl) (by rw [← hd]; rfl)
          (by rw [← hd]; exact htracking)
          (by rw [hsender]; exact hgone)
      simp only [hkind, hleft, State.hearArrivals_dressed, if_true, and_self]
      split <;> rfl
  · simp only [hkind, if_false, false_and, State.hearArrivals_dressed]

/-- The reactions of the rendezvous table to a good frame, in either order. -/
theorem State.delivered_facts (s : State) (f : Frame) (first : Bool) {notice arrivals : State → State}
    (hnotice : notice = fun x => if (s.peer f.sender).departed = false then x.lossNotice (stationBit f.sender) else x)
    (harrivals : arrivals = fun x => x.hearArrivals f.sender f.round f.arrivals) {v : State}
    (hv : v = if f.kind = .leave then (if first = true then arrivals (notice s) else notice (arrivals s)) else arrivals s) :
    Keeps (.counters :: .latches :: reacting) s v ∧ s.CountsConflicts v := by
  have ha (x : State) : Keeps (.counters :: .latches :: reacting) x (arrivals x) ∧ x.CountsConflicts (arrivals x) := by
    rw [harrivals]
    exact ⟨(hearArrivals_keeps x _ _ _).mono _, x.hearArrivals_counts _ _ _⟩
  have hn (x : State) : Keeps (.counters :: .latches :: reacting) x (notice x) ∧ x.CountsConflicts (notice x) := by
    rw [hnotice]
    dsimp only
    split
    · exact ⟨(lossNotice_keeps x _).mono _, .of_eq (lossNotice_keeps x _ .counters (by decide))⟩
    · exact ⟨Keeps.refl _ _, .of_eq rfl⟩
  rw [hv]
  split
  · split
    · exact ⟨(hn s).1.trans (ha _).1, (hn s).2.trans (ha _).2⟩
    · exact ⟨(ha s).1.trans (hn _).1, (ha s).2.trans (hn _).2⟩
  · exact ha s

/-- A frame that brings no arrival entries leaves the table alone. -/
theorem State.hearArrivals_nil (s : State) (k : Station) (round : Round) : s.hearArrivals k round [] = s := by
  have hnone : State.newlyDone s s = [] := by simp [State.newlyDone]
  rw [State.hearArrivals, State.tableReaction, List.foldl_nil, State.appendClosed, hnone, List.append_nil]
  rfl

/-- The dressed state, whole. -/
theorem State.dressed_eq {v : State} {d : Dress} (hkeeps : Keeps (.counters :: .latches :: reacting) s v)
    (hcounts : s.CountsConflicts v) :
    v.dressed d =
      { s with
        timer := { s.timer with correction := d.correction }, line := d.line
        frames := { v.frames with good := d.good }
        counters := { s.counters with good := d.goodCount, conflicts := v.counters.conflicts }
        peers := d.peers, entries := v.entries, completions := v.completions, channels := v.channels
        latches := v.latches.add d.events d.joined d.lost, port := d.port } := by
  have hv : v = State.taking (.counters :: .latches :: reacting) s v := hkeeps.eq_taking
  have hcounters : { v.counters with good := d.goodCount } =
      { s.counters with good := d.goodCount, conflicts := v.counters.conflicts } := by rw [hcounts]
  refine (congrArg (fun w : State => w.dressed d) hv).trans ?_
  exact congrArg
    (fun c : Counters =>
      { s with
        timer := { s.timer with correction := d.correction }, line := d.line
        frames := { v.frames with good := d.good }, counters := c
        peers := d.peers, entries := v.entries, completions := v.completions, channels := v.channels
        latches := v.latches.add d.events d.joined d.lost, port := d.port }) hcounters

theorem getLsbD_peerLost (l : EventSet) : (l ||| 0x20#8).getLsbD 5 = true := by
  rw [BitVec.getLsbD_or, Bool.or_eq_true]
  exact .inr rfl

theorem exec_goodFrame {rx : Reception} {f : Frame} {first : Bool} (hrunning : s.resetHeld = false)
    (hsilent : s.frames.transmitting = none) (hheard : hear s.settings.rate rx = .frame f)
    (hclass : s.classify rx f = .good) (hsynced : s.line.state.synced = true) :
    exec (.frameEnd rx first) s = .next (((s.passInstant.hearGood rx f).clearAlone).deliverGood f first) := by
  rw [exec_frameEnd hrunning, State.receptionEnds_silent hsilent, State.activityEnds_synced hsynced hheard,
    State.frameInRound, hclass]

/-! ### A good frame in COLDSTART -/

/-- Adoption leaves the rendezvous table, the counters and the configuration alone. -/
theorem State.adopt_keepsTable (s : State) (f : Frame) : Keeps (.timer :: .frames :: .peers :: turning) s (s.adopt f) := by
  rw [State.adopt, State.enter_other _ (by decide) (by decide)]
  have hjump (beat : Nat) : Keeps (.timer :: .frames :: .peers :: turning) s (s.jump f.round f.sender beat) :=
    ((setTimer_keeps s _).mono _).trans (((setFrames_keeps _ _).mono _).trans ((setFrames_keeps _ _).mono _))
  exact (((hjump _).trans ((State.turned_keeps _ .integrating).mono _)).trans ((startTracking_keeps _ _).mono _)).trans
    ((setLine_keeps _ _).mono _)

/-- The start of a round that another station has opened: ACTIVE, with its peers tracked from the next round on (R45, R63). -/
def State.joinedCold (s : State) : State :=
  ((s.setLine { s.line with coldSent := 0 }).turned .active).startTracking (s.timer.round + 1#16)

theorem State.coldFrameHeard_sync {f : Frame} (hkind : f.kind = .sync) : s.coldFrameHeard f .good = s.joinedCold := by
  rw [State.coldFrameHeard, if_pos ⟨hkind, rfl⟩, State.enter_other _ (by decide) (by decide)]
  rfl

theorem State.coldFrameHeard_lower {f : Frame} (hkind : f.kind = .cold) (hlow : f.sender.val < s.timer.station.val) :
    s.coldFrameHeard f .good = s.adopt f := by
  rw [State.coldFrameHeard, if_neg (by simp [hkind]), if_pos ⟨hkind, hlow⟩]

theorem State.coldFrameHeard_other {f : Frame} (hsync : f.kind ≠ .sync)
    (hlow : ¬(f.kind = .cold ∧ f.sender.val < s.timer.station.val)) : s.coldFrameHeard f .good = s := by
  rw [State.coldFrameHeard, if_neg (fun h => hsync h.1), if_neg hlow]

theorem State.joinedCold_keeps (s : State) : Keeps (.peers :: turning) s s.joinedCold :=
  (((setLine_keeps s _).mono _).trans ((State.turned_keeps _ .active).mono _)).trans ((startTracking_keeps _ _).mono _)

theorem State.joinedCold_facts (s : State) :
    s.joinedCold.line = (s.setLine { s.line with coldSent := 0 }).changedLine .active ∧
      s.joinedCold.latches.latched = s.latches.latched ||| 0x80#8 ∧ s.joinedCold.peers.records = s.peers.records ∧
      s.joinedCold.peers.tracking = true ∧
      (s.peers.tracking = false → s.joinedCold.peers.startRound = some (s.timer.round + 1#16)) := by
  have hline := (s.setLine { s.line with coldSent := 0 }).turned_line .active
  have hlatched := (s.setLine { s.line with coldSent := 0 }).turned_latched .active
  have hpeers : ((s.setLine { s.line with coldSent := 0 }).turned .active).peers = s.peers :=
    State.turned_keeps _ .active .peers (by decide)
  unfold State.joinedCold
  generalize (s.setLine { s.line with coldSent := 0 }).turned .active = w at *
  have hrecords : w.peers.records = s.peers.records := by rw [hpeers]
  unfold State.startTracking
  split
  · next h =>
    exact ⟨hline, hlatched, by rw [hpeers], h, fun hidle => by rw [hpeers, hidle] at h; cases h⟩
  · exact ⟨hline, hlatched, hrecords, rfl, fun _ => rfl⟩

theorem exec_goodFrame_coldstart {rx : Reception} {f : Frame} {first : Bool} (hrunning : s.resetHeld = false)
    (hsilent : s.frames.transmitting = none) (hheard : hear s.settings.rate rx = .frame f)
    (hclass : s.classify rx f = .good) (hpeer : s.fromPeer f = true) (hcold : s.line.state = .coldstart) :
    exec (.frameEnd rx first) s = .next ((s.hearGood rx f).coldFrameHeard f .good) := by
  rw [exec_frameEnd hrunning, State.receptionEnds_silent hsilent, State.activityEnds_coldstart hcold hheard,
    State.frameInColdstart_eq, if_pos hpeer, State.classed, hclass]

/-- A record of the peer table of a dressed state. -/
theorem State.dressed_peer (u : State) (d : Dress) (k : Station) : (u.dressed d).peer k = d.peers.records[k] := rfl

theorem Dress.departing_record (d : Dress) (j k : Station) :
    (d.departing j).peers.records[k] =
      if k = j then { d.peers.records[j] with departed := true, present := false } else d.peers.records[k] := by
  have h : (d.departing j).peers.records[k] = _ :=
    Vector.getElem_set (xs := d.peers.records) (x := { d.peers.records[j] with departed := true, present := false }) j.isLt k.isLt
  rw [h]
  simp only [Fin.ext_iff, eq_comm]
  rfl

theorem State.frameDress_record (s : State) (rx : Reception) (f : Frame) (k : Station) :
    (s.frameDress rx f).peers.records[k] =
      if k = f.sender then { s.peer f.sender with lastRound := some f.round, lastView := some f.view } else s.peer k := by
  have h : (s.frameDress rx f).peers.records[k] = _ :=
    Vector.getElem_set (xs := s.peers.records)
      (x := { s.peer f.sender with lastRound := some f.round, lastView := some f.view }) f.sender.isLt k.isLt
  rw [h]
  simp only [Fin.ext_iff, eq_comm]
  rfl

/-- Settles O17. In the synced states the reactions are those of the state before the frame, dressed; in COLDSTART the line
controller takes the frame. -/
theorem goodFrameIsDelivered : Obligations.GoodFrameIsDelivered := by
  intro rx first s f hrunning hsilent hheard hfirst hlast hslot hin hround hother
  have hclass : s.classify rx f = .good := (s.classify_iff rx f).mpr ⟨hfirst, hlast, hslot, hin, hround, hother⟩
  obtain ⟨t, hexec⟩ := exec_next (.frameEnd rx first) s
  refine ⟨t, hexec, fun hsynced htracking notice arrivals v hnotice harrivals hv => ?_, fun hcold => ?_⟩
  · obtain ⟨hkeeps, hcounts⟩ := s.delivered_facts f first hnotice harrivals hv
    have hdeliver := s.deliverGood_dressed rx f first htracking hnotice harrivals
    rw [← hv] at hdeliver
    rw [exec_goodFrame hrunning hsilent hheard hclass hsynced, hdeliver] at hexec
    injection hexec with ht
    by_cases hleft : f.kind = .leave ∧ (s.peer f.sender).departed = false
    · rw [if_pos hleft] at ht
      subst ht
      have hrecord (k : Station) : (v.dressed ((s.frameDress rx f).departing f.sender)).peer k =
          if k = f.sender then
            { s.peer f.sender with
              lastRound := some f.round, lastView := some f.view, departed := true, present := false }
          else s.peer k := by
        rw [State.dressed_peer, Dress.departing_record, State.frameDress_record, State.frameDress_record, if_pos rfl]
        split <;> rfl
      refine ⟨State.dressed_eq hkeeps hcounts, by rw [hrecord, if_pos rfl], by rw [hrecord, if_pos rfl],
        by rw [hrecord, if_pos rfl], fun k hk => by rw [hrecord, if_neg hk],
        fun _ _ => ⟨by rw [hrecord, if_pos rfl], by rw [hrecord, if_pos rfl], getLsbD_peerLost _, ?_⟩,
        fun h => ?_, fun h => absurd hleft.1 h⟩
      · have hlost : (v.dressed ((s.frameDress rx f).departing f.sender)).latches.lost =
            v.latches.lost ||| stationBit f.sender := rfl
        rw [hlost, hasStation_or, hasStation_stationBit, decide_eq_true rfl, Bool.or_true]
      · rcases h with h | h
        · exact absurd hleft.1 h
        · rw [hleft.2] at h
          cases h
    · rw [if_neg hleft] at ht
      subst ht
      have hrecord (k : Station) : (v.dressed (s.frameDress rx f)).peer k =
          if k = f.sender then { s.peer f.sender with lastRound := some f.round, lastView := some f.view }
          else s.peer k := by
        rw [State.dressed_peer, State.frameDress_record]
      refine ⟨State.dressed_eq hkeeps hcounts, by rw [hrecord, if_pos rfl], by rw [hrecord, if_pos rfl],
        by rw [hrecord, if_pos rfl], fun k hk => by rw [hrecord, if_neg hk], fun h h' => absurd ⟨h, h'⟩ hleft,
        fun _ => ⟨by rw [hrecord, if_pos rfl], by rw [hrecord, if_pos rfl], v.latches.add_none⟩, fun hkind hnone => ?_⟩
      have hsame : v = s := by rw [hv, if_neg hkind, harrivals, hnone]; exact s.hearArrivals_nil _ _
      rw [hsame]
      exact ⟨rfl, rfl, rfl, s.latches.add_none, rfl, rfl⟩
  · have hpeer : s.fromPeer f = true := (s.fromPeer_iff f).mpr ⟨hin, hother⟩
    rw [exec_goodFrame_coldstart hrunning hsilent hheard hclass hpeer hcold] at hexec
    injection hexec with ht
    have hgood := s.hearGood_eq rx f
    have hwhole (hkeeps : Keeps (.timer :: .frames :: .peers :: turning) (s.hearGood rx f) t) := hkeeps.eq_taking
    rw [hgood] at hwhole
    by_cases hsync : f.kind = .sync
    · rw [State.coldFrameHeard_sync hsync] at ht
      obtain ⟨hline, hlatched, hrecords, htracking, hstart⟩ := State.joinedCold_facts (s.hearGood rx f)
      have hkeeps := State.joinedCold_keeps (s.hearGood rx f)
      rw [ht, hgood] at hline hlatched hrecords hstart hkeeps
      rw [ht] at htracking
      refine ⟨hwhole (hkeeps.mono _), fun _ => ⟨hkeeps .timer (by decide), hkeeps .frames (by decide)⟩,
        fun _ => ⟨by rw [hline]; rfl, by rw [hline]; rfl, by rw [hline]; rfl, hlatched, hrecords, htracking, hstart⟩,
        fun h => ?_⟩
      rcases h with h | h
      · rw [hsync] at h
        cases h
      · rw [hsync] at h
        cases h.1
    · by_cases hlow : f.kind = .cold ∧ f.sender.val < s.timer.station.val
      · rw [State.coldFrameHeard_lower (s := s.hearGood rx f) hlow.1 hlow.2] at ht
        have hkeeps := State.adopt_keepsTable (s.hearGood rx f) f
        rw [ht, hgood] at hkeeps
        refine ⟨hwhole hkeeps, fun h => absurd hlow h, fun h => absurd h hsync, fun h => ?_⟩
        rcases h with h | h
        · rw [hlow.1] at h
          cases h
        · exact absurd hlow.2 (by have := h.2; omega)
      · rw [State.coldFrameHeard_other (s := s.hearGood rx f) hsync hlow, hgood] at ht
        subst ht
        exact ⟨rfl, fun _ => ⟨rfl, rfl⟩, fun h => absurd h hsync, fun _ => ⟨rfl, rfl, rfl, rfl⟩⟩

end Sys2Proof.Machine
end

section
/-!
PROOFS about local arrivals: a pass over the entries, trigger edges and period ends as such passes, and the changes of one
pulse channel (R103, R106, R107, R149 to R151, R167).
-/

namespace Sys2Proof.Machine

-- One lemma after another: side by side, the evaluations of `decide` would each hold a thread.
set_option Elab.async false

variable {s t u : State}

/-! ### A pass over the entries in which some arrive -/

/-- The entry changes, and if it has arrived by that, its index joins the end of the uncarried part (R28, R103). -/
def State.letArrive (g : Entry → Entry) (s : State) (i : EntryIndex) : State :=
  (s.setEntry i (g (s.entry i))).setFrames
    { s.frames with
      announce :=
        { s.frames.announce with
          uncarried :=
            s.frames.announce.uncarried ++ if !(s.entry i).arrived && (g (s.entry i)).arrived then [i] else [] } }

theorem State.letArrive_entry (g : Entry → Entry) (s : State) (i j : EntryIndex) :
    (s.letArrive g i).entry j = if j = i then g (s.entry i) else s.entry j :=
  (s.setEntry i (g (s.entry i))).setFrames_entry _ j |>.trans (s.entry_setEntry i j _)

/-- The uncarried part grows by these members. -/
def FrameLayer.join (f : FrameLayer) (l : List EntryIndex) : FrameLayer :=
  { f with announce := { f.announce with uncarried := f.announce.uncarried ++ l } }

theorem FrameLayer.join_nil (f : FrameLayer) : f.join [] = f := by
  rw [FrameLayer.join, List.append_nil]

theorem FrameLayer.join_join (f : FrameLayer) (l m : List EntryIndex) : (f.join l).join m = f.join (l ++ m) := by
  simp only [FrameLayer.join, List.append_assoc]

/-- An entry that does not change, and an entry whose other fields change. -/
theorem State.letArrive_same {g : Entry → Entry} {i : EntryIndex} (h : g (s.entry i) = s.entry i) : s.letArrive g i = s := by
  have hentries : s.entries.set i (s.entry i) = s.entries := by simp [State.entry]
  have hnone : (!(s.entry i).arrived && (s.entry i).arrived) = false := by cases (s.entry i).arrived <;> rfl
  rw [State.letArrive, h, hnone, if_neg Bool.false_ne_true, List.append_nil, State.setEntry, hentries]
  rfl

theorem State.letArrive_silent {g : Entry → Entry} {i : EntryIndex} (h : (g (s.entry i)).arrived = (s.entry i).arrived) :
    s.letArrive g i = s.setEntry i (g (s.entry i)) := by
  have hnone : (!(s.entry i).arrived && (g (s.entry i)).arrived) = false := by
    rw [h]
    cases (s.entry i).arrived <;> rfl
  rw [State.letArrive, hnone, if_neg Bool.false_ne_true, List.append_nil]
  rfl

theorem State.letArrive_arrives {g : Entry → Entry} {i : EntryIndex} (hwaits : (s.entry i).arrived = false)
    (h : g (s.entry i) = { s.entry i with arrived := true }) : s.letArrive g i = s.arriveLocally i := by
  rw [State.letArrive, h, hwaits]
  rfl

/-- A pass: each entry of a list, none twice, changes by its own fields, and those that arrive join in the list's order. -/
theorem State.foldl_letArrive (g : Entry → Entry) (l : List EntryIndex) (hl : l.Nodup) (s : State) :
    (∀ j, (l.foldl (State.letArrive g) s).entry j = if j ∈ l then g (s.entry j) else s.entry j) ∧
      (l.foldl (State.letArrive g) s).frames =
        s.frames.join (l.filter fun i => !(s.entry i).arrived && (g (s.entry i)).arrived) := by
  induction l generalizing s with
  | nil => exact ⟨fun j => by simp, (FrameLayer.join_nil _).symm⟩
  | cons i l ih =>
    obtain ⟨hi, hl⟩ := List.nodup_cons.mp hl
    obtain ⟨hentry, hframes⟩ := ih hl (s.letArrive g i)
    rw [List.foldl_cons]
    refine ⟨fun j => ?_, ?_⟩
    · rw [hentry, State.letArrive_entry]
      by_cases h : j = i
      · subst h; simp [hi]
      · simp [h]
    · have hother : (l.filter fun j => !((s.letArrive g i).entry j).arrived && (g ((s.letArrive g i).entry j)).arrived) =
          l.filter fun j => !(s.entry j).arrived && (g (s.entry j)).arrived :=
        List.filter_congr fun j hj => by
          have hne : j ≠ i := fun h => hi (h ▸ hj)
          rw [State.letArrive_entry, if_neg hne]
      have hfirst : (s.letArrive g i).frames =
          s.frames.join (if !(s.entry i).arrived && (g (s.entry i)).arrived then [i] else []) := rfl
      rw [hframes, hother, hfirst, FrameLayer.join_join, List.filter_cons]
      split <;> rfl

/-- A function that makes such a pass, with a change that looks at the station number besides. -/
theorem State.foldl_eq_letArrive {f : State → EntryIndex → State} {g : Station → Entry → Entry}
    (hf : ∀ s i, f s i = s.letArrive (g s.timer.station) i) (l : List EntryIndex) (s : State) :
    l.foldl f s = l.foldl (State.letArrive (g s.timer.station)) s := by
  induction l generalizing s with
  | nil => rfl
  | cons i l ih =>
    rw [List.foldl_cons, List.foldl_cons, hf, ih]
    rfl

theorem State.letArrive_keeps (g : Entry → Entry) (s : State) (i : EntryIndex) : Keeps arriving s (s.letArrive g i) :=
  ((setEntry_keeps s i _).mono arriving).trans ((setFrames_keeps _ _).mono arriving)

theorem allSixteen_filter_pairwise (p : EntryIndex → Bool) : (allSixteen.filter p).Pairwise (· < ·) :=
  allSixteen_ascending.filter p

/-! ### Trigger edges -/

/-- The entry waits for its local arrival at this station (R103). -/
def Entry.waitsAt (e : Entry) (station : Station) : Bool :=
  decide (e.state = .armed) && hasStation e.record.participants station && !e.arrived

theorem Entry.waitsAt_iff (e : Entry) (station : Station) :
    e.waitsAt station = true ↔
      e.state = .armed ∧ hasStation e.record.participants station = true ∧ e.arrived = false := by
  simp [Entry.waitsAt, and_assoc]

/-- An edge of an input meets the entry's condition (R106). -/
def ArrivalCondition.meetsEdge (c : ArrivalCondition) (k : InputIndex) (rising : Bool) : Bool :=
  match c with
  | .trigger input edge =>
    decide (input = k) && (decide (edge = .either) || decide (edge = .rising ∧ rising = true) ||
      decide (edge = .falling ∧ rising = false))
  | _ => false

theorem ArrivalCondition.meetsEdge_iff (c : ArrivalCondition) (k : InputIndex) (rising : Bool) :
    c.meetsEdge k rising = true ↔ ∃ e : EdgeChoice, c = .trigger k e ∧
      (e = .either ∨ (e = .rising ∧ rising = true) ∨ (e = .falling ∧ rising = false)) := by
  cases c with
  | trigger input edge =>
    simp only [ArrivalCondition.meetsEdge, Bool.and_eq_true, Bool.or_eq_true, decide_eq_true_eq, or_assoc,
      ArrivalCondition.trigger.injEq]
    constructor
    · rintro ⟨rfl, h⟩
      exact ⟨edge, ⟨rfl, rfl⟩, h⟩
    · rintro ⟨e, ⟨rfl, rfl⟩, h⟩
      exact ⟨rfl, h⟩
  | _ => simp [ArrivalCondition.meetsEdge]

/-- What an edge does to one entry (R106). -/
def Entry.takeEdge (k : InputIndex) (rising : Bool) (station : Station) (e : Entry) : Entry :=
  if e.waitsAt station && e.record.condition.meetsEdge k rising then { e with arrived := true } else e

theorem State.deliverEdge_eq (s : State) (k : InputIndex) (rising : Bool) :
    s.deliverEdge k rising = allSixteen.foldl (State.letArrive (Entry.takeEdge k rising s.timer.station)) s := by
  refine State.foldl_eq_letArrive (g := Entry.takeEdge k rising) (fun s i => ?_) allSixteen s
  cases hcondition : (s.entry i).record.condition with
  | trigger input edge =>
    have hmeets : (s.entry i).record.condition.meetsEdge k rising = true ↔
        input = k ∧ (edge = .either ∨ (edge = .rising ∧ rising = true) ∨ (edge = .falling ∧ rising = false)) := by
      simp [hcondition, ArrivalCondition.meetsEdge, or_assoc]
    have hawaits : s.awaits (s.entry i) = (s.entry i).waitsAt s.timer.station := rfl
    dsimp only
    by_cases hmeet : input = k ∧ s.awaits (s.entry i) = true ∧
        (edge = .either ∨ (edge = .rising ∧ rising = true) ∨ (edge = .falling ∧ rising = false))
    · obtain ⟨hinput, hwaits, hedge⟩ := hmeet
      have hset : Entry.takeEdge k rising s.timer.station (s.entry i) = { s.entry i with arrived := true } :=
        if_pos (by rw [Bool.and_eq_true, hmeets, ← hawaits]; exact ⟨hwaits, hinput, hedge⟩)
      have hnot : (s.entry i).arrived = false := (((s.entry i).waitsAt_iff _).mp hwaits).2.2
      rw [if_pos ⟨hinput, hwaits, hedge⟩, State.letArrive_arrives hnot hset]
    · have hset : Entry.takeEdge k rising s.timer.station (s.entry i) = s.entry i := by
        refine if_neg fun h => hmeet ?_
        rw [Bool.and_eq_true, hmeets, ← hawaits] at h
        exact ⟨h.2.1, h.1, h.2.2⟩
      rw [if_neg hmeet, State.letArrive_same hset]
  | _ =>
    have hset : Entry.takeEdge k rising s.timer.station (s.entry i) = s.entry i :=
      if_neg (by simp [hcondition, ArrivalCondition.meetsEdge])
    exact (State.letArrive_same hset).symm

theorem exec_triggerEdge (hrunning : s.resetHeld = false) (k : InputIndex) (high : Bool) :
    exec (.triggerEdge k high) s = .next (s.sampleTrigger k high) :=
  s.whenRunning_running (fun s => s.sampleTrigger k high) hrunning

theorem State.sampleTrigger_absent {k : InputIndex} (h : (s.trigger k).level = none) (high : Bool) :
    s.sampleTrigger k high = s.setTrigger k { s.trigger k with level := some high } := by
  simp only [State.sampleTrigger, h]

theorem State.sampleTrigger_equal {k : InputIndex} {high : Bool} (h : (s.trigger k).level = some high) :
    s.sampleTrigger k high = s := by
  simp only [State.sampleTrigger, h, if_true]

theorem State.sampleTrigger_edge {k : InputIndex} {high : Bool} (h : (s.trigger k).level = some (!high)) :
    s.sampleTrigger k high =
      (s.setTrigger k { level := some high, lastEdge := some s.timer.round }).deliverEdge k high := by
  have hne : ¬(!high) = high := by cases high <;> decide
  simp only [State.sampleTrigger, h, if_neg hne]

theorem State.trigger_congr (h : t.triggers = s.triggers) (k : InputIndex) : t.trigger k = s.trigger k := by
  simp only [State.trigger, h]

/-- A sample sets the level of its input, and no other trigger input changes (R167). -/
theorem State.sampleTrigger_trigger (s : State) (k : InputIndex) (high : Bool) :
    ((s.sampleTrigger k high).trigger k).level = some high ∧
      ∀ j, j ≠ k → (s.sampleTrigger k high).trigger j = s.trigger j := by
  cases hlevel : (s.trigger k).level with
  | none =>
    rw [State.sampleTrigger_absent hlevel]
    exact ⟨by simp, fun j hj => by simp [hj]⟩
  | some old =>
    by_cases hsame : old = high
    · rw [State.sampleTrigger_equal (hsame ▸ hlevel)]
      exact ⟨hsame ▸ hlevel, fun j _ => rfl⟩
    · have hedge : (s.trigger k).level = some (!high) := by rw [hlevel, Bool.eq_not.mpr hsame]
      have hkept (j : InputIndex) :
          ((s.setTrigger k { level := some high, lastEdge := some s.timer.round }).deliverEdge k high).trigger j =
            (s.setTrigger k { level := some high, lastEdge := some s.timer.round }).trigger j :=
        State.trigger_congr (deliverEdge_keeps _ k high .triggers (by decide)) j
      rw [State.sampleTrigger_edge hedge]
      exact ⟨by rw [hkept, State.trigger_setTrigger, if_pos rfl], fun j hj => by
        rw [hkept, State.trigger_setTrigger, if_neg hj]⟩

/-- The entries that an edge of an input reaches (R103, R106). -/
theorem Entry.takeEdge_iff (e : Entry) (k : InputIndex) (rising : Bool) (station : Station) :
    (e.waitsAt station && e.record.condition.meetsEdge k rising) = true ↔
      ∃ c : EdgeChoice, e.state = .armed ∧ hasStation e.record.participants station = true ∧ e.arrived = false ∧
        e.record.condition = .trigger k c ∧
        (c = .either ∨ (c = .rising ∧ rising = true) ∨ (c = .falling ∧ rising = false)) := by
  rw [Bool.and_eq_true, Entry.waitsAt_iff, ArrivalCondition.meetsEdge_iff]
  constructor
  · rintro ⟨⟨hstate, hmember, harrived⟩, c, hc⟩
    exact ⟨c, hstate, hmember, harrived, hc⟩
  · rintro ⟨c, hstate, hmember, harrived, hc⟩
    exact ⟨⟨hstate, hmember, harrived⟩, c, hc⟩

/-- An entry arrives by an edge exactly when the edge reaches it. -/
theorem Entry.takeEdge_arrives (e : Entry) (k : InputIndex) (rising : Bool) (station : Station) :
    (!e.arrived && (e.takeEdge k rising station).arrived) = (e.waitsAt station && e.record.condition.meetsEdge k rising) := by
  unfold Entry.takeEdge
  cases htest : e.waitsAt station && e.record.condition.meetsEdge k rising with
  | true =>
    have hwaits : e.waitsAt station = true := (Bool.and_eq_true _ _ ▸ htest).1
    rw [((e.waitsAt_iff station).mp hwaits).2.2, if_pos rfl]
    rfl
  | false =>
    rw [if_neg Bool.false_ne_true]
    cases e.arrived <;> rfl

/-! ### TRIGGER_SAMPLE -/

theorem exec_triggerSample (hrunning : s.resetHeld = false) (samples : List (InputIndex × Bool)) :
    exec (.triggerSample samples) s = .next (samples.foldl (fun s p => s.sampleTrigger p.1 p.2) s) :=
  s.whenRunning_running
    (fun s => samples.foldl (fun (s : State) (p : InputIndex × Bool) => s.sampleTrigger p.1 p.2) s) hrunning

theorem runCommands_samples (hrunning : s.resetHeld = false) (samples : List (InputIndex × Bool)) :
    runCommands (samples.map fun p => .triggerEdge p.1 p.2) s =
      .next (samples.foldl (fun s p => s.sampleTrigger p.1 p.2) s) := by
  induction samples generalizing s with
  | nil => rfl
  | cons p samples ih =>
    have hrunning' : (s.sampleTrigger p.1 p.2).resetHeld = false :=
      (sampleTrigger_keeps s p.1 p.2 .resetHeld (by decide)).trans hrunning
    rw [List.map_cons, runCommands, exec_triggerEdge hrunning, List.foldl_cons]
    exact ih hrunning'

theorem State.foldl_sampleTrigger_other (samples : List (InputIndex × Bool)) (s : State) {j : InputIndex}
    (hj : j ∉ samples.map Prod.fst) :
    (samples.foldl (fun s p => s.sampleTrigger p.1 p.2) s).trigger j = s.trigger j := by
  induction samples generalizing s with
  | nil => rfl
  | cons p samples ih =>
    rw [List.map_cons, List.mem_cons, not_or] at hj
    rw [List.foldl_cons, ih _ hj.2]
    exact (s.sampleTrigger_trigger p.1 p.2).2 j hj.1

theorem State.foldl_sampleTrigger_level (samples : List (InputIndex × Bool)) (s : State)
    (hsamples : (samples.map Prod.fst).Nodup) {p : InputIndex × Bool} (hp : p ∈ samples) :
    ((samples.foldl (fun s p => s.sampleTrigger p.1 p.2) s).trigger p.1).level = some p.2 := by
  induction samples generalizing s with
  | nil => cases hp
  | cons q samples ih =>
    rw [List.map_cons, List.nodup_cons] at hsamples
    rw [List.foldl_cons]
    rcases List.mem_cons.mp hp with rfl | hp
    · rw [State.foldl_sampleTrigger_other samples _ hsamples.1]
      exact (s.sampleTrigger_trigger p.1 p.2).1
    · exact ih _ hsamples.2 hp

/-- Settles O31. -/
theorem triggerEdgesMakeEntriesArrive : Obligations.TriggerEdgesMakeEntriesArrive := by
  intro k high s hrunning
  refine ⟨fun hnone => ?_, fun hsame => ?_, fun hedge => ?_, fun samples => ?_⟩
  · refine ⟨s.setTrigger k { s.trigger k with level := some high }, ?_, rfl, ?_, fun j hj => ?_⟩
    · rw [exec_triggerEdge hrunning, State.sampleTrigger_absent hnone]
    · rw [State.trigger_setTrigger, if_pos rfl]
    · rw [State.trigger_setTrigger, if_neg hj]
  · rw [exec_triggerEdge hrunning, State.sampleTrigger_equal hsame]
  · have htrigger := s.sampleTrigger_trigger k high
    have hkeeps := sampleTrigger_keeps s k high
    have hpass : s.sampleTrigger k high =
        allSixteen.foldl (State.letArrive (Entry.takeEdge k high s.timer.station))
          (s.setTrigger k { level := some high, lastEdge := some s.timer.round }) := by
      rw [State.sampleTrigger_edge hedge, State.deliverEdge_eq]
      rfl
    have hlast : (s.sampleTrigger k high).trigger k = { level := some high, lastEdge := some s.timer.round } := by
      have hkept := deliverEdge_keeps (s.setTrigger k { level := some high, lastEdge := some s.timer.round }) k high
      rw [State.sampleTrigger_edge hedge, State.trigger_congr (hkept .triggers (by decide)), State.trigger_setTrigger,
        if_pos rfl]
    obtain ⟨hentry, hframes⟩ := State.foldl_letArrive (Entry.takeEdge k high s.timer.station) allSixteen allSixteen_nodup
      (s.setTrigger k { level := some high, lastEdge := some s.timer.round })
    rw [← hpass] at hentry hframes
    have hmoved (i : EntryIndex) : (s.sampleTrigger k high).entry i = (s.entry i).takeEdge k high s.timer.station := by
      rw [hentry, if_pos (mem_allSixteen i)]
      rfl
    have hlist : (s.sampleTrigger k high).frames =
        s.frames.join
          (allSixteen.filter fun i =>
            (s.entry i).waitsAt s.timer.station && (s.entry i).record.condition.meetsEdge k high) := by
      rw [hframes]
      exact congrArg s.frames.join (List.filter_congr fun i _ => (s.entry i).takeEdge_arrives k high s.timer.station)
    have hexec := exec_triggerEdge hrunning k high
    generalize s.sampleTrigger k high = t at *
    refine ⟨t, hexec, hkeeps.eq_taking, hlast, htrigger.2, fun i e hstate hmember harrived hcondition he => ?_,
      fun i hnot => ?_, _, hlist, allSixteen_filter_pairwise _, fun i => ?_⟩
    · have htakes := ((s.entry i).takeEdge_iff k high s.timer.station).mpr ⟨e, hstate, hmember, harrived, hcondition, he⟩
      refine ⟨by rw [hmoved, Entry.takeEdge, if_pos htakes], ?_⟩
      rw [hlist]
      exact List.mem_append.mpr (.inr (List.mem_filter.mpr ⟨mem_allSixteen i, htakes⟩))
    · rw [hmoved, Entry.takeEdge, if_neg (fun h => hnot (((s.entry i).takeEdge_iff k high s.timer.station).mp h))]
    · rw [List.mem_filter, Entry.takeEdge_iff]
      exact ⟨fun h => h.2, fun h => ⟨mem_allSixteen i, h⟩⟩
  · refine ⟨_, exec_triggerSample hrunning samples, runCommands_samples hrunning samples, fun p hp hnodup => ?_, fun j hj => ?_⟩
    · exact State.foldl_sampleTrigger_level samples s hnodup hp
    · exact State.foldl_sampleTrigger_other samples s hj

/-! ### Period ends -/

/-- The number of period ends that a CHANNEL condition on this channel names (R107). -/
def ArrivalCondition.countsOn (c : ArrivalCondition) (k : ChannelIndex) : Option (BitVec 8) :=
  match c with
  | .channel j n => if j = k then .some n else .none
  | _ => .none

theorem ArrivalCondition.countsOn_iff (c : ArrivalCondition) (k : ChannelIndex) (n : BitVec 8) :
    c.countsOn k = some n ↔ c = .channel k n := by
  cases c with
  | channel j m =>
    simp only [ArrivalCondition.countsOn, ArrivalCondition.channel.injEq]
    split
    · next h => simp [h]
    · next h => simp [h]
  | _ => simp [ArrivalCondition.countsOn]

/-- What a period end does to one entry (R107). -/
def Entry.countPeriod (k : ChannelIndex) (station : Station) (e : Entry) : Entry :=
  match e.record.condition.countsOn k with
  | some n =>
    if e.waitsAt station = true then
      { e with channelCount := e.channelCount + 1#8, arrived := decide (n.toNat ≤ (e.channelCount + 1#8).toNat) }
    else e
  | none => e

theorem Entry.countPeriod_counts {e : Entry} {k : ChannelIndex} {n : BitVec 8} {station : Station}
    (hcondition : e.record.condition = .channel k n) (hwaits : e.waitsAt station = true) :
    e.countPeriod k station =
      { e with channelCount := e.channelCount + 1#8, arrived := decide (n.toNat ≤ (e.channelCount + 1#8).toNat) } := by
  simp only [Entry.countPeriod, (e.record.condition.countsOn_iff k n).mpr hcondition, hwaits, if_true]

theorem Entry.countPeriod_other {e : Entry} {k : ChannelIndex} {station : Station}
    (h : e.waitsAt station = false ∨ ∀ n, e.record.condition ≠ .channel k n) : e.countPeriod k station = e := by
  unfold Entry.countPeriod
  split
  · next n hn =>
    rcases h with h | h
    · rw [h, if_neg Bool.false_ne_true]
    · exact absurd ((e.record.condition.countsOn_iff k n).mp hn) (h n)
  · rfl

theorem State.countPeriodEnd_eq (k : ChannelIndex) (s : State) (i : EntryIndex) :
    State.countPeriodEnd k s i = s.letArrive (Entry.countPeriod k s.timer.station) i := by
  have hawaits : s.awaits (s.entry i) = (s.entry i).waitsAt s.timer.station := rfl
  by_cases hcounts : ∃ n, (s.entry i).record.condition = .channel k n ∧ s.awaits (s.entry i) = true
  · obtain ⟨n, hcondition, hwaits⟩ := hcounts
    have hset := Entry.countPeriod_counts hcondition (station := s.timer.station) hwaits
    have hnot : (s.entry i).arrived = false := (((s.entry i).waitsAt_iff _).mp hwaits).2.2
    simp only [State.countPeriodEnd, hcondition, hwaits, and_self, if_true, State.entry_setEntry]
    by_cases hlast : n.toNat ≤ ((s.entry i).channelCount + 1#8).toNat
    · rw [if_pos hlast, State.letArrive, hset, hnot, decide_eq_true hlast, State.arriveLocally, State.setEntry_setEntry,
        State.entry_setEntry, if_pos rfl]
      rfl
    · rw [if_neg hlast, State.letArrive_silent (by rw [hset, hnot]; exact decide_eq_false hlast), hset,
        decide_eq_false hlast, ← hnot]
  · have hsame : (s.entry i).countPeriod k s.timer.station = s.entry i := by
      refine Entry.countPeriod_other ?_
      by_cases hwaits : s.awaits (s.entry i) = true
      · exact .inr fun n hn => hcounts ⟨n, hn, hwaits⟩
      · exact .inl (Bool.not_eq_true _ ▸ hwaits)
    rw [State.letArrive_same hsame]
    unfold State.countPeriodEnd
    split
    · next c n hcondition =>
      refine if_neg fun h => hcounts ⟨n, ?_, h.2⟩
      rw [hcondition, h.1]
    · rfl

theorem State.deliverPeriodEnd_eq (s : State) (k : ChannelIndex) :
    s.deliverPeriodEnd k = allSixteen.foldl (State.letArrive (Entry.countPeriod k s.timer.station)) s :=
  State.foldl_eq_letArrive (g := Entry.countPeriod k) (State.countPeriodEnd_eq k) allSixteen s

/-- A period end in its fields: counted, and the last of a burst finishes it (R150, R151). -/
theorem Channel.periodEnded_eq (c : Channel) :
    c.periodEnded =
      { c with
        periodEnds := bump c.periodEnds, position := 0, owed := false
        run := if c.active.mode = .burst ∧ c.periodsRemaining ≤ 1 then .finished else c.run
        periodsRemaining := if c.active.mode = .burst then c.periodsRemaining - 1 else c.periodsRemaining } := by
  unfold Channel.periodEnded
  by_cases hburst : c.active.mode = .burst
  · by_cases hlast : c.periodsRemaining ≤ 1
    · have hzero : c.periodsRemaining - 1 = 0 := by omega
      simp only [hburst, hlast, hzero, if_true, and_self]
    · simp only [hburst, hlast, if_true, if_false, and_false]
  · simp only [hburst, if_false, false_and]

theorem exec_periodEnd (hrunning : s.resetHeld = false) (k : ChannelIndex) :
    exec (.periodEnd k) s = .next (s.endPeriod k) :=
  s.whenRunning_running (fun s => s.endPeriod k) hrunning

theorem State.endPeriod_idle {k : ChannelIndex} (h : (s.channel k).run ≠ .running) : s.endPeriod k = s := if_neg h

theorem State.endPeriod_running {k : ChannelIndex} (h : (s.channel k).run = .running) :
    s.endPeriod k = (s.setChannel k (s.channel k).periodEnded).deliverPeriodEnd k := if_pos h

/-- The channels behind a period end: that channel's period has ended (R150). -/
theorem State.endPeriod_channel {k : ChannelIndex} (h : (s.channel k).run = .running) (j : ChannelIndex) :
    (s.endPeriod k).channel j = if j = k then (s.channel k).periodEnded.settle s.isActive else s.channel j := by
  rw [State.endPeriod_running h, State.channel_congr (deliverPeriodEnd_keeps _ k .channels (by decide)),
    State.channel_setChannel]

/-- The entries behind a period end, and those that join the announce queue (R107). -/
theorem State.endPeriod_table {k : ChannelIndex} (h : (s.channel k).run = .running) :
    (∀ j, (s.endPeriod k).entry j = (s.entry j).countPeriod k s.timer.station) ∧
      (s.endPeriod k).frames =
        s.frames.join
          (allSixteen.filter fun i =>
            !(s.entry i).arrived && ((s.entry i).countPeriod k s.timer.station).arrived) := by
  obtain ⟨hentry, hframes⟩ := State.foldl_letArrive (Entry.countPeriod k s.timer.station) allSixteen allSixteen_nodup
    (s.setChannel k (s.channel k).periodEnded)
  rw [State.endPeriod_running h, State.deliverPeriodEnd_eq]
  exact ⟨fun j => (hentry j).trans (if_pos (mem_allSixteen j)), hframes⟩

theorem toNat_count (c n : BitVec 8) (h : c.toNat < n.toNat) : (c + 1#8).toNat = c.toNat + 1 := by
  have hn := n.isLt
  rw [BitVec.toNat_add]
  exact Nat.mod_eq_of_lt (by simp; omega)

/-- Settles O33. -/
theorem periodEndCountsAndArrives : Obligations.PeriodEndCountsAndArrives := by
  intro k s hrunning
  refine ⟨fun hidle => by rw [exec_periodEnd hrunning, State.endPeriod_idle hidle], fun hrun => ?_⟩
  have hchannel := State.endPeriod_channel hrun
  obtain ⟨hentry, hframes⟩ := State.endPeriod_table hrun
  have hkeeps := endPeriod_keeps s k
  have hexec := exec_periodEnd hrunning k
  generalize s.endPeriod k = t at *
  have hended : t.channel k = (s.channel k).periodEnded.settle s.isActive := by rw [hchannel, if_pos rfl]
  have hperiod := (s.channel k).periodEnded_eq
  refine ⟨t, hexec, hkeeps.eq_taking, fun j hj => by rw [hchannel, if_neg hj], ?_, ?_, ?_, ?_, ?_, ?_, ?_, fun hmode => ?_,
    fun hmode hmore => ?_, fun hmode hlast => ?_, fun i n hstate hmember harrived hcondition hless => ?_, fun i hnot => ?_,
    _, hframes, allSixteen_filter_pairwise _, fun i => ?_⟩
  · rw [hended, hperiod]; rfl
  · rw [hended, hperiod]; rfl
  · rw [hended]; exact Channel.settle_pinFits _ _
  · rw [hended, hperiod]; rfl
  · rw [hended, hperiod]; rfl
  · rw [hended, hperiod]; rfl
  · rw [hended, hperiod, ← bump_eq]; rfl
  · rw [hended, hperiod]
    simp [hmode, hrun]
  · rw [hended, hperiod]
    have hnot : ¬(s.channel k).periodsRemaining ≤ 1 := by omega
    simp [hmode, hrun, hnot]
  · rw [hended, hperiod]
    simp [hmode, hlast]
  · have hwaits : (s.entry i).waitsAt s.timer.station = true :=
      ((s.entry i).waitsAt_iff _).mpr ⟨hstate, hmember, harrived⟩
    have hset := Entry.countPeriod_counts hcondition hwaits
    have hcount : (s.entry i).channelCount + 1#8 = BitVec.ofNat 8 ((s.entry i).channelCount.toNat + 1) :=
      BitVec.eq_of_toNat_eq (by rw [toNat_count _ _ hless, BitVec.toNat_ofNat, Nat.mod_eq_of_lt]; have := n.isLt; omega)
    have hnth : n.toNat ≤ (BitVec.ofNat 8 ((s.entry i).channelCount.toNat + 1)).toNat ↔
        (s.entry i).channelCount.toNat + 1 = n.toNat := by
      rw [← hcount, toNat_count _ _ hless]
      omega
    have hmoved : t.entry i = _ := (hentry i).trans hset
    simp only [hcount, hnth] at hmoved
    refine ⟨hmoved, fun hlast => ?_⟩
    have hjoins : (!(s.entry i).arrived && ((s.entry i).countPeriod k s.timer.station).arrived) = true := by
      rw [harrived, ← hentry, hmoved]
      exact decide_eq_true hlast
    rw [hframes]
    exact List.mem_append.mpr (.inr (List.mem_filter.mpr ⟨mem_allSixteen i, hjoins⟩))
  · rw [hentry]
    refine Entry.countPeriod_other ?_
    rcases hnot with h | h | h | h
    · exact .inl (by simp [Entry.waitsAt, h])
    · have hmember : hasStation (s.entry i).record.participants s.timer.station = false := h
      exact .inl (by simp [Entry.waitsAt, hmember])
    · exact .inl (by simp [Entry.waitsAt, h])
    · exact .inr h
  · rw [List.mem_filter, hentry]
    simp

/-! ### Phase waits and falls -/

theorem State.isActive_iff (s : State) : s.isActive = true ↔ s.line.state = .active := decide_eq_true_iff

theorem Channel.pinLevel_safe {c : Channel} (h : c.forced = true ∨ c.active.mode = .off) : c.pinLevel = c.active.safe :=
  if_pos h

theorem Channel.pinLevel_driven {c : Channel} (hforced : c.forced = false) (hmode : c.active.mode ≠ .off) :
    c.pinLevel = (c.generated != c.active.invert) :=
  if_neg (by simp [hforced, hmode])

/-- Table 32: what the pin drives. -/
theorem Channel.pinLevel_table (c : Channel) :
    (c.forced = true ∨ c.active.mode = .off → c.pinLevel = c.active.safe) ∧
      (c.forced = false → c.active.mode = .level → c.run = .idle → c.pinLevel = (c.active.level != c.active.invert)) ∧
      (c.forced = false → c.active.mode = .periodic ∨ c.active.mode = .burst →
        (c.run = .running → c.pinLevel = (decide (c.position < c.active.high.toNat) != c.active.invert)) ∧
        (c.run = .waiting ∨ c.run = .finished → c.pinLevel = c.active.invert)) := by
  refine ⟨Channel.pinLevel_safe, fun hforced hmode hrun => ?_, fun hforced hmode => ?_⟩
  · rw [Channel.pinLevel_driven hforced (by rw [hmode]; decide), Channel.generated, hrun, hmode]
    rfl
  · have hdriven := Channel.pinLevel_driven hforced (by rcases hmode with h | h <;> rw [h] <;> decide)
    refine ⟨fun hrun => by rw [hdriven, Channel.generated, hrun], fun hrun => ?_⟩
    have hlow : c.generated = false := by rcases hrun with h | h <;> rw [Channel.generated, h]
    rw [hdriven, hlow, Bool.false_bne]

theorem exec_phaseWaitEnd (hrunning : s.resetHeld = false) (k : ChannelIndex) :
    exec (.phaseWaitEnd k) s = .next (s.endPhaseWait k) :=
  s.whenRunning_running (fun s => s.endPhaseWait k) hrunning

theorem exec_highToLowChange (hrunning : s.resetHeld = false) (k : ChannelIndex) :
    exec (.highToLowChange k) s = .next (s.fall k) :=
  s.whenRunning_running (fun s => s.fall k) hrunning

theorem State.endPhaseWait_waiting {k : ChannelIndex} (h : (s.channel k).run = .waiting) :
    s.endPhaseWait k = s.setChannel k (s.channel k).phaseEnded := if_pos h

theorem State.fall_ahead {k : ChannelIndex} (h : (s.channel k).run = .running)
    (hbelow : (s.channel k).position < (s.channel k).active.high.toNat)
    (hhigh : (s.channel k).active.high.toNat < (s.channel k).active.period.toNat) :
    s.fall k = s.setChannel k (s.channel k).fallen := if_pos ⟨h, hbelow, hhigh⟩

/-- Settles O32. -/
theorem phaseWaitAndFallChangeChannel : Obligations.PhaseWaitAndFallChangeChannel := by
  refine ⟨State.isActive_iff, Channel.pinLevel_table, fun k s hrunning => ⟨fun hwaiting => ?_, fun hnot => ?_,
    fun hrun hbelow hhigh => ?_, fun hnot => ?_⟩⟩
  · have hset := s.channel_setChannel k k (s.channel k).phaseEnded
    rw [if_pos rfl] at hset
    refine ⟨_, (exec_phaseWaitEnd hrunning k).trans (by rw [State.endPhaseWait_waiting hwaiting]), rfl,
      fun j hj => by rw [State.channel_setChannel, if_neg hj], ?_⟩
    rw [hset]
    exact ⟨rfl, rfl, rfl, rfl, Channel.settle_pinFits _ _, rfl, rfl, rfl, rfl⟩
  · rw [exec_phaseWaitEnd hrunning, State.endPhaseWait, if_neg hnot]
  · have hset := s.channel_setChannel k k (s.channel k).fallen
    rw [if_pos rfl] at hset
    refine ⟨_, (exec_highToLowChange hrunning k).trans (by rw [State.fall_ahead hrun hbelow hhigh]), rfl,
      fun j hj => by rw [State.channel_setChannel, if_neg hj], ?_⟩
    rw [hset]
    refine ⟨hrun, rfl, rfl, rfl, Channel.settle_pinFits _ _, rfl, rfl, rfl, rfl, fun hmode hfree => ?_,
      fun hguard hinactive => ?_⟩
    · have hforced : ((s.channel k).fallen.settle s.isActive).forced = false := by
        rw [Channel.settle_forced]
        rcases hfree with h | h
        · exact Bool.and_eq_false_iff.mpr (.inl h)
        · rw [s.isActive_iff.mpr h]
          exact Bool.and_false _
      have hlow : ((s.channel k).fallen.settle s.isActive).generated = false := by
        have hrun' : ((s.channel k).fallen.settle s.isActive).run = .running := hrun
        rw [Channel.generated, hrun']
        exact decide_eq_false (Nat.lt_irrefl _)
      rw [Channel.settle_pin, Channel.pinLevel_driven hforced hmode, hlow, Bool.false_bne]
      rfl
    · have hforced : ((s.channel k).fallen.settle s.isActive).forced = true := by
        have hoff : s.isActive = false := by rw [← Bool.not_eq_true, State.isActive_iff]; exact hinactive
        have hguard' : (s.channel k).fallen.active.guard = true := hguard
        rw [Channel.settle_forced, hguard', hoff]
        rfl
      rw [Channel.settle_pin, Channel.pinLevel_safe (.inl hforced)]
      rfl
  · rw [exec_highToLowChange hrunning, State.fall, if_neg ?_]
    rintro ⟨hrun, hbelow, hhigh⟩
    rcases hnot with h | h | h
    · exact h hrun
    · exact absurd hbelow (Nat.not_lt.mpr h)
    · exact absurd hhigh (Nat.not_lt.mpr h)

end Sys2Proof.Machine
end

section
/-!
PROOFS about agreement: the test for completion by the least age (R115 to R118), and what each arrival entry of a good
frame does (R109 to R114).
-/

namespace Sys2Proof.Machine

-- One lemma after another: side by side, the evaluations of `decide` would each hold a thread.
set_option Elab.async false

variable {s t u : State}

/-! ### What is known of an entry's arrivals -/

theorem State.mem_otherParticipants (s : State) (e : Entry) (k : Station) :
    k ∈ s.otherParticipants e ↔ hasStation e.record.participants k = true ∧ k ≠ s.timer.station := by
  rw [State.otherParticipants, List.mem_filter, mem_members, decide_eq_true_iff]

theorem State.arrivalsKnown_iff (s : State) (e : Entry) :
    s.arrivalsKnown e = true ↔ (s.participates e = true → e.ownAnnounce ≠ none) ∧
      ∀ k : Station, hasStation e.record.participants k = true → k ≠ s.timer.station → e.records[k] ≠ none := by
  have hown : (!s.participates e || e.ownAnnounce.isSome) = true ↔ (s.participates e = true → e.ownAnnounce ≠ none) := by
    rw [← Option.isSome_iff_ne_none]
    cases s.participates e <;> simp
  rw [State.arrivalsKnown, Bool.and_eq_true, hown, List.all_eq_true]
  simp only [State.mem_otherParticipants, Option.isSome_iff_ne_none, and_imp]

theorem State.mem_knownRounds (s : State) (e : Entry) (b : Round) :
    b ∈ s.knownRounds e ↔ (s.participates e = true ∧ e.ownAnnounce = some b) ∨
      ∃ k : Station, hasStation e.record.participants k = true ∧ k ≠ s.timer.station ∧ e.records[k] = some b := by
  have hown : b ∈ (if s.participates e = true then e.ownAnnounce.toList else []) ↔
      s.participates e = true ∧ e.ownAnnounce = some b := by
    by_cases h : s.participates e = true <;> simp [h]
  rw [State.knownRounds, List.mem_append, hown, List.mem_filterMap]
  simp only [State.mem_otherParticipants, and_assoc]

/-! ### The latest announce round -/

/-- The fold keeps a round of least age. -/
theorem foldl_latest (r : Round) (l : List Round) (b : Round) :
    l.foldl (fun b c => if age r c < age r b then c else b) b ∈ b :: l ∧
      ∀ c ∈ b :: l, age r (l.foldl (fun b c => if age r c < age r b then c else b) b) ≤ age r c := by
  induction l generalizing b with
  | nil => simp
  | cons c l ih =>
    rw [List.foldl_cons]
    obtain ⟨hmem, hleast⟩ := ih (if age r c < age r b then c else b)
    generalize l.foldl (fun b c => if age r c < age r b then c else b) (if age r c < age r b then c else b) = x at *
    have hstart : age r (if age r c < age r b then c else b) ≤ age r b ∧
        age r (if age r c < age r b then c else b) ≤ age r c := by split <;> omega
    have hx := hleast _ (List.mem_cons_self ..)
    refine ⟨?_, fun d hd => ?_⟩
    · rcases List.mem_cons.mp hmem with h | h
      · rw [h]
        split <;> simp
      · simp [h]
    · rcases List.mem_cons.mp hd with rfl | hd
      · exact Nat.le_trans hx hstart.1
      · rcases List.mem_cons.mp hd with rfl | hd
        · exact Nat.le_trans hx hstart.2
        · exact hleast d (List.mem_cons_of_mem _ hd)

/-- Two rounds of the same age are one. -/
theorem eq_of_age_eq {r a b : Round} (h : age r a = age r b) : a = b := by
  unfold age at h
  bv_omega

/-- The latest of some rounds is the one of least age (R116). -/
theorem latestOf_eq {r a : Round} {l : List Round} (ha : a ∈ l) (hleast : ∀ b ∈ l, age r a ≤ age r b) :
    latestOf r l = some a := by
  cases l with
  | nil => cases ha
  | cons b l =>
    obtain ⟨hmem, hmin⟩ := foldl_latest r l b
    exact congrArg some (eq_of_age_eq (Nat.le_antisymm (hmin a ha) (hleast _ hmem)))

/-- The fire round of an entry whose latest announce round is a (R116). -/
theorem State.fireRoundOf_eq {e : Entry} {a : Round} (ha : a ∈ s.knownRounds e)
    (hleast : ∀ b ∈ s.knownRounds e, (s.timer.round - a).toNat ≤ (s.timer.round - b).toNat) :
    s.fireRoundOf e = a + BitVec.ofNat 16 (s.agreedLead e).toNat := by
  have hlead : (s.agreedLead e).setWidth 16 = BitVec.ofNat 16 (s.agreedLead e).toNat :=
    (BitVec.ofNat_toNat 16 (s.agreedLead e)).symm
  rw [State.fireRoundOf, latestOf_eq ha hleast, hlead]
  rfl

/-- A fire round lies ahead exactly while the age of its announce round is below the lead (R116, R117). -/
theorem precedes_fireRound {r a : Round} {lead : BitVec 4} (h : (r - a).toNat ≤ 32767) :
    precedes r (a + BitVec.ofNat 16 lead.toNat) = true ↔ (r - a).toNat < lead.toNat := by
  have hlead := lead.isLt
  have hr := r.isLt
  have ha := a.isLt
  rw [precedes_iff, BitVec.toNat_add, BitVec.toNat_ofNat]
  rw [BitVec.toNat_sub] at h ⊢
  omega

/-! ### The test for completion, by its outcomes -/

theorem State.testCompletion_intime {i : EntryIndex} (harmed : (s.entry i).state = .armed)
    (hknown : s.arrivalsKnown (s.entry i) = true) (hahead : precedes s.timer.round (s.fireRoundOf (s.entry i)) = true) :
    s.testCompletion i =
      s.setEntry i { s.entry i with state := .complete, fireRound := some (s.fireRoundOf (s.entry i)), late := false } := by
  rw [State.testCompletion, if_pos ⟨harmed, hknown⟩, if_pos hahead]

theorem State.testCompletion_late {i : EntryIndex} (harmed : (s.entry i).state = .armed)
    (hknown : s.arrivalsKnown (s.entry i) = true) (hbehind : ¬precedes s.timer.round (s.fireRoundOf (s.entry i)) = true)
    (hpolicy : (s.entry i).record.late = .apply) :
    s.testCompletion i =
      s.setEntry i { s.entry i with state := .complete, fireRound := some (s.timer.round + 1#16), late := true } := by
  rw [State.testCompletion, if_pos ⟨harmed, hknown⟩, if_neg hbehind]
  simp only [hpolicy]

theorem State.testCompletion_missed {i : EntryIndex} (harmed : (s.entry i).state = .armed)
    (hknown : s.arrivalsKnown (s.entry i) = true) (hbehind : ¬precedes s.timer.round (s.fireRoundOf (s.entry i)) = true)
    (hpolicy : (s.entry i).record.late = .skip) : s.testCompletion i = s.closeEntry i .missed none := by
  rw [State.testCompletion, if_pos ⟨harmed, hknown⟩, if_neg hbehind]
  simp only [hpolicy]

/-- Settles O28. -/
theorem completionFollowsLeastAge : Obligations.CompletionFollowsLeastAge := by
  refine ⟨fun s e => ⟨Iff.rfl, s.arrivalsKnown_iff e, s.mem_knownRounds e, rfl, fun h => if_pos h, fun lead hobserver hlead => ?_⟩,
    fun s i a => ⟨s.testCompletion_waits i, fun harmed hknown ha hleast hage => ?_⟩⟩
  · rw [State.agreedLead, hobserver, if_neg Bool.false_ne_true, hlead]
    rfl
  · have hfire := State.fireRoundOf_eq ha hleast
    have hahead := precedes_fireRound (lead := s.agreedLead (s.entry i)) hage
    rw [← hfire] at hahead
    refine ⟨fun hless => ?_, fun hbehind hpolicy => ?_, fun hbehind hpolicy => ?_⟩
    · rw [State.testCompletion_intime harmed hknown (hahead.mpr hless), ← hfire]
      rfl
    · rw [State.testCompletion_late harmed hknown (fun h => absurd (hahead.mp h) (Nat.not_lt.mpr hbehind)) hpolicy]
      rfl
    · rw [State.testCompletion_missed harmed hknown (fun h => absurd (hahead.mp h) (Nat.not_lt.mpr hbehind)) hpolicy]
      refine ⟨by rw [State.closeEntry_entry, if_pos rfl], by rw [State.closeEntry_entry, if_pos rfl],
        fun hmem => ((State.mem_closeEntry_announce s i i _ _).mp hmem).2 rfl, fun k => ?_⟩
      rw [State.closeEntry_channel, ← Bool.not_eq_true, Channel.discard_isStaged]
      exact fun h => h.2 rfl

/-! ### Arrival entries -/

theorem Entry.numbered_iff (e : Entry) (a : ArrivalEntry) : e.numbered a = true ↔ e.record.number = a.number :=
  decide_eq_true_iff

theorem Entry.named_iff (e : Entry) (a : ArrivalEntry) :
    e.named a = true ↔ e.record.number = a.number ∧ e.record.epoch = a.epoch := by
  simp [Entry.named]

theorem Entry.pending_not_free {e : Entry} (h : e.pending = true) : e.state ≠ .free := fun hfree => by
  rcases e.pending_iff.mp h with h | h <;> rw [hfree] at h <;> cases h

section

variable {k : Station} {r : Round} {a : ArrivalEntry}

theorem State.hearArrival_undated (hother : a.announce ≠ r) (hlater : precedes a.announce r = false) :
    s.hearArrival k r a = s :=
  if_neg (by simp [hother, hlater])

/-- An arrival entry of no pending entry's number (R111). -/
theorem State.hearArrival_unnumbered (h : ∀ i, (s.entry i).pending = true → (s.entry i).record.number ≠ a.number) :
    s.hearArrival k r a = s := by
  have hnone : (allSixteen.any fun i => (s.entry i).pending && (s.entry i).numbered a) = false := by
    rw [← Bool.not_eq_true, List.any_eq_true]
    rintro ⟨i, _, hi⟩
    rw [Bool.and_eq_true, Entry.numbered_iff] at hi
    exact h i hi.1 hi.2
  rw [State.hearArrival, if_pos hnone, ite_self]

/-- The pending entries hold the number (R111). -/
theorem State.any_numbered (h : ∃ i, (s.entry i).pending = true ∧ (s.entry i).record.number = a.number) :
    ¬(allSixteen.any fun i => (s.entry i).pending && (s.entry i).numbered a) = false := by
  obtain ⟨i, hpending, hnumber⟩ := h
  rw [Bool.not_eq_false, List.any_eq_true]
  exact ⟨i, mem_allSixteen i, by rw [Bool.and_eq_true, Entry.numbered_iff]; exact ⟨hpending, hnumber⟩⟩

theorem State.hearArrival_found (hdated : a.announce = r ∨ precedes a.announce r = true)
    (h : ∃ i, (s.entry i).pending = true ∧ (s.entry i).record.number = a.number) {i : EntryIndex}
    (hfind : (allSixteen.find? fun i => (s.entry i).pending && (s.entry i).named a) = some i) :
    s.hearArrival k r a = s.takeArrival i k a := by
  rw [State.hearArrival, if_pos hdated, if_neg (State.any_numbered h)]
  simp only [hfind]

theorem State.hearArrival_unfound (hdated : a.announce = r ∨ precedes a.announce r = true)
    (h : ∃ i, (s.entry i).pending = true ∧ (s.entry i).record.number = a.number)
    (hfind : (allSixteen.find? fun i => (s.entry i).pending && (s.entry i).named a) = none) :
    s.hearArrival k r a =
      if (allSixteen.any fun i => decide ((s.entry i).state ≠ .free) && (s.entry i).named a) = true then s
      else s.raise .epochConflict := by
  rw [State.hearArrival, if_pos hdated, if_neg (State.any_numbered h)]
  simp only [hfind]

/-- Under an epoch that no entry outside FREE holds, it raises EPOCH_CONFLICT (R111, R128). -/
theorem State.hearArrival_unnamed (hdated : a.announce = r ∨ precedes a.announce r = true)
    (h : ∃ i, (s.entry i).pending = true ∧ (s.entry i).record.number = a.number)
    (hnone : ∀ i, (s.entry i).state ≠ .free → (s.entry i).record.number = a.number → (s.entry i).record.epoch ≠ a.epoch) :
    s.hearArrival k r a = s.raise .epochConflict := by
  have hfind : (allSixteen.find? fun i => (s.entry i).pending && (s.entry i).named a) = none := by
    rw [List.find?_eq_none]
    intro i _ hi
    rw [Bool.and_eq_true, Entry.named_iff] at hi
    exact hnone i (Entry.pending_not_free hi.1) hi.2.1 hi.2.2
  have hany : ¬(allSixteen.any fun i => decide ((s.entry i).state ≠ .free) && (s.entry i).named a) = true := by
    rw [List.any_eq_true]
    rintro ⟨i, _, hi⟩
    rw [Bool.and_eq_true, Entry.named_iff, decide_eq_true_iff] at hi
    exact hnone i hi.1 hi.2.1 hi.2.2
  rw [State.hearArrival_unfound hdated h hfind, if_neg hany]

/-- Under an epoch that a HELD or DONE entry holds, it is ignored (R111). -/
theorem State.hearArrival_settled (hunique : s.NamesUnique) {i : EntryIndex}
    (hstate : (s.entry i).state = .held ∨ (s.entry i).state = .done) (hnumber : (s.entry i).record.number = a.number)
    (hepoch : (s.entry i).record.epoch = a.epoch) (hdated : a.announce = r ∨ precedes a.announce r = true) :
    s.hearArrival k r a = s := by
  have hused : (s.entry i).state ≠ .free := by rcases hstate with h | h <;> rw [h] <;> decide
  by_cases hsome : ∃ j, (s.entry j).pending = true ∧ (s.entry j).record.number = a.number
  · have hfind : (allSixteen.find? fun j => (s.entry j).pending && (s.entry j).named a) = none := by
      rw [List.find?_eq_none]
      intro j _ hj
      rw [Bool.and_eq_true, Entry.named_iff, Entry.pending_iff] at hj
      have hne : i ≠ j := fun h => by
        subst h
        rcases hstate with h | h <;> rw [h] at hj <;> simp at hj
      have hfree : (s.entry j).state ≠ .free := by rcases hj.1 with h | h <;> rw [h] <;> decide
      exact hunique i j hne hused hfree (hnumber.trans hj.2.1.symm) (hepoch.trans hj.2.2.symm)
    have hany : (allSixteen.any fun j => decide ((s.entry j).state ≠ .free) && (s.entry j).named a) = true :=
      List.any_eq_true.mpr ⟨i, mem_allSixteen i, by
        rw [Bool.and_eq_true, Entry.named_iff, decide_eq_true_iff]; exact ⟨hused, hnumber, hepoch⟩⟩
    rw [State.hearArrival_unfound hdated hsome hfind, if_pos hany]
  · exact State.hearArrival_unnumbered fun j hj hn => hsome ⟨j, hj, hn⟩

/-- The one pending entry of its number and epoch takes it (R82, R111). -/
theorem State.hearArrival_named (hunique : s.NamesUnique) {i : EntryIndex} (hpending : (s.entry i).pending = true)
    (hnumber : (s.entry i).record.number = a.number) (hepoch : (s.entry i).record.epoch = a.epoch)
    (hdated : a.announce = r ∨ precedes a.announce r = true) : s.hearArrival k r a = s.takeArrival i k a := by
  have hfind : (allSixteen.find? fun j => (s.entry j).pending && (s.entry j).named a) = some i := by
    have hi : ((s.entry i).pending && (s.entry i).named a) = true := by
      rw [Bool.and_eq_true, Entry.named_iff]
      exact ⟨hpending, hnumber, hepoch⟩
    have hsome : (allSixteen.find? fun j => (s.entry j).pending && (s.entry j).named a).isSome = true :=
      List.find?_isSome.mpr ⟨i, mem_allSixteen i, hi⟩
    obtain ⟨j, hj⟩ := Option.isSome_iff_exists.mp hsome
    have htest := List.find?_some hj
    rw [Bool.and_eq_true, Entry.named_iff] at htest
    have heq : j = i := by
      refine Classical.byContradiction fun hne => ?_
      exact hunique j i hne (Entry.pending_not_free htest.1) (Entry.pending_not_free hpending)
        (htest.2.1.trans hnumber.symm) (htest.2.2.trans hepoch.symm)
    rw [hj, heq]
  exact State.hearArrival_found hdated ⟨i, hpending, hnumber⟩ hfind

/-! ### The two tests of an arrival entry -/

theorem State.recordArrival_first {i : EntryIndex} (h : (s.entry i).records[k] = none) :
    s.recordArrival i k a =
      (s.setEntry i { s.entry i with records := (s.entry i).records.set k (some a.announce) }).testCompletion i := by
  simp only [State.recordArrival, h]

theorem State.recordArrival_repeated {i : EntryIndex} (h : (s.entry i).records[k] = some a.announce) :
    s.recordArrival i k a = s := by
  simp only [State.recordArrival, h, if_true]

theorem State.recordArrival_conflict {i : EntryIndex} {b : Round} (h : (s.entry i).records[k] = some b)
    (hb : b ≠ a.announce) :
    s.recordArrival i k a = s.setCounters { s.counters with conflicts := bump s.counters.conflicts } := by
  simp only [State.recordArrival, h, if_neg hb]

/-- The lead that an arrival entry's is compared with: the effective lead, or the recorded lead of an observer (R112). -/
def State.leadOf (s : State) (e : Entry) : Option (BitVec 4) :=
  if s.participates e = true then some (s.effectiveLead e) else e.recordedLead

theorem State.takeArrival_outsider {i : EntryIndex} (h : hasStation (s.entry i).record.participants k = false) :
    s.takeArrival i k a = s := by
  rw [State.takeArrival, if_pos h]

theorem State.takeArrival_lead {i : EntryIndex} (hmember : hasStation (s.entry i).record.participants k = true)
    {b : BitVec 4} (hlead : s.leadOf (s.entry i) = some b) :
    s.takeArrival i k a = if b = a.lead then s.recordArrival i k a else s.raise .leadConflict := by
  have hmember' : ¬hasStation (s.entry i).record.participants k = false := by rw [hmember]; decide
  rw [State.takeArrival, if_neg hmember']
  unfold State.leadOf at hlead
  by_cases hp : s.participates (s.entry i) = true
  · rw [if_pos hp, Option.some.injEq] at hlead
    rw [if_pos hp, hlead]
  · rw [if_neg hp] at hlead
    rw [if_neg hp]
    simp only [hlead]

theorem State.takeArrival_unrecorded {i : EntryIndex} (hmember : hasStation (s.entry i).record.participants k = true)
    (hlead : s.leadOf (s.entry i) = none) :
    s.takeArrival i k a = (s.setEntry i { s.entry i with recordedLead := some a.lead }).recordArrival i k a := by
  have hmember' : ¬hasStation (s.entry i).record.participants k = false := by rw [hmember]; decide
  unfold State.leadOf at hlead
  by_cases hp : s.participates (s.entry i) = true
  · rw [if_pos hp] at hlead
    cases hlead
  · rw [if_neg hp] at hlead
    rw [State.takeArrival, if_neg hmember', if_neg hp]
    simp only [hlead]

end

/-- The test for completion leaves the arrival records of the entry alone. -/
theorem State.testCompletion_records (s : State) (i : EntryIndex) :
    ((s.testCompletion i).entry i).records = (s.entry i).records := by
  unfold State.testCompletion
  dsimp only
  split
  · split
    · rw [State.entry_setEntry, if_pos rfl]
    · split
      · rw [State.closeEntry_entry, if_pos rfl]
      · rw [State.entry_setEntry, if_pos rfl]
  · rfl

/-- The work of a frame's arrival entries appends nothing before the reaction ends (R93). -/
theorem foldl_hearArrival_completions (k : Station) (r : Round) (l : List ArrivalEntry) (s : State) :
    (l.foldl (State.hearArrival k r) s).completions = s.completions :=
  Keeps.foldl (fun s a => hearArrival_keeps k r s a) s l .completions (by decide)

/-- Settles O29. -/
theorem arrivalEntriesAreTaken : Obligations.ArrivalEntriesAreTaken := by
  intro k r s hunique
  refine ⟨fun l u hu => ?_, fun a => ⟨State.hearArrival_undated, fun hdated => ⟨State.hearArrival_unnumbered,
    fun hsome hnone => ?_, fun i hstate hnumber hepoch => State.hearArrival_settled hunique hstate hnumber hepoch hdated,
    fun i hpending hnumber hepoch => ?_⟩⟩⟩
  · have hwork := foldl_hearArrival_completions k r l s
    rw [← hu] at hwork
    rw [State.hearArrivals, State.tableReaction, ← hu, State.appendClosed, hwork]
    rfl
  · have hraise := State.hearArrival_unnamed (k := k) hdated hsome hnone
    exact ⟨hraise, by rw [hraise]; rfl⟩
  · have htakes := State.hearArrival_named (k := k) hunique hpending hnumber hepoch hdated
    rw [htakes]
    refine ⟨State.takeArrival_outsider, fun hmember lead hlead => ?_⟩
    have hof : s.leadOf (s.entry i) = lead := hlead.symm
    refine ⟨fun b hb hne => ?_, fun hnone hfirst => ?_,
      fun hsame => ⟨fun hfirst => ?_, fun hrepeated => ?_, fun b hb hne => ?_⟩⟩
    · have hraise := State.takeArrival_lead (a := a) hmember (hof.trans hb)
      rw [if_neg hne] at hraise
      exact ⟨hraise, by rw [hraise]; rfl⟩
    · have hunrecorded : s.leadOf (s.entry i) = none := hof.trans hnone
      rw [State.takeArrival_unrecorded hmember hunrecorded,
        State.recordArrival_first (by rw [State.entry_setEntry, if_pos rfl]; exact hfirst), State.entry_setEntry, if_pos rfl,
        State.setEntry_setEntry]
      rfl
    · have hrecord := State.takeArrival_lead (a := a) hmember (hof.trans hsame)
      rw [if_pos rfl, State.recordArrival_first hfirst] at hrecord
      refine ⟨?_, hrecord⟩
      rw [hrecord, State.testCompletion_records, State.entry_setEntry, if_pos rfl]
      simp
    · have hrecord := State.takeArrival_lead (a := a) hmember (hof.trans hsame)
      rw [hrecord, if_pos rfl, State.recordArrival_repeated hrepeated]
    · have hrecord := State.takeArrival_lead (a := a) hmember (hof.trans hsame)
      rw [hrecord, if_pos rfl, State.recordArrival_conflict hb hne, bump_eq]
      rfl

end Sys2Proof.Machine
end

section
/-!
PROOFS about what the boundary's reactions are made of: the yield check (R51), one channel's swap instruction (R132, R133,
R160), and the close of a round by the peer table (R66 to R70).
-/

namespace Sys2Proof.Machine

-- One lemma after another: side by side, the evaluations of `decide` would each hold a thread.
set_option Elab.async false

variable {s t u : State}

/-! ### The yield check -/

theorem members_pairwise (set : StationSet) : (members set).Pairwise (· < ·) := allSixteen_filter_pairwise _

/-- The empty set counts 16 as its lowest, and any other set its lowest member. -/
theorem lowest_cases (set : StationSet) :
    (lowest set = 16 ∧ ∀ k, hasStation set k = false) ∨
      ∃ k, lowest set = k.val ∧ hasStation set k = true ∧ ∀ j, hasStation set j = true → k ≤ j := by
  have hmem := mem_members set
  have hpairwise := members_pairwise set
  unfold lowest
  cases hlist : members set with
  | nil =>
    refine .inl ⟨rfl, fun k => ?_⟩
    rw [← Bool.not_eq_true, ← hmem, hlist]
    exact List.not_mem_nil
  | cons k l =>
    rw [hlist] at hpairwise
    refine .inr ⟨k, rfl, (hmem k).mp (hlist ▸ List.mem_cons_self ..), fun j hj => ?_⟩
    rcases List.mem_cons.mp (hlist ▸ (hmem j).mpr hj) with rfl | h
    · exact Nat.le_refl _
    · exact Nat.le_of_lt ((List.pairwise_cons.mp hpairwise).1 j h)

theorem stations_eq_zero {set : StationSet} (h : ∀ k, hasStation set k = false) : set = 0#16 := by
  refine BitVec.eq_of_getLsbD_eq fun n hn => ?_
  exact (h ⟨n, hn⟩).trans (BitVec.getLsbD_zero).symm

theorem hasStation_zero (k : Station) : hasStation 0#16 k = false := BitVec.getLsbD_zero

/-- A set has a member below every member of another exactly when its lowest is lower. -/
theorem lowest_lt_iff (own other : StationSet) :
    (other ≠ 0#16 ∧ lowest other < lowest own) ↔
      ∃ k, hasStation other k = true ∧ ∀ j, hasStation own j = true → k < j := by
  rcases lowest_cases other with ⟨_, hnone⟩ | ⟨k, hk, hmem, hleast⟩
  · refine ⟨fun h => absurd (stations_eq_zero hnone) h.1, fun ⟨k, hk, _⟩ => ?_⟩
    rw [hnone k] at hk
    cases hk
  · have hne : other ≠ 0#16 := fun h => by
      rw [h, hasStation_zero] at hmem
      cases hmem
    rcases lowest_cases own with ⟨hown, hnone⟩ | ⟨j, hj, hmem', hleast'⟩
    · refine ⟨fun _ => ⟨k, hmem, fun j hj => ?_⟩, fun _ => ⟨hne, ?_⟩⟩
      · rw [hnone j] at hj
        cases hj
      · rw [hk, hown]
        exact k.isLt
    · rw [hk, hj]
      refine ⟨fun h => ⟨k, hmem, fun i hi => ?_⟩, fun ⟨i, hi, hbelow⟩ => ⟨hne, ?_⟩⟩
      · exact Nat.lt_of_lt_of_le h.2 (hleast' i hi)
      · exact Nat.lt_of_le_of_lt (hleast i hi) (hbelow j hmem')

theorem yields_iff (own other : StationSet) :
    yields own other = true ↔ (members own).length < (members other).length ∨
      ((members own).length = (members other).length ∧ other ≠ 0#16 ∧ lowest other < lowest own) := by
  simp only [yields, Bool.or_eq_true, Bool.and_eq_true, decide_eq_true_eq, and_assoc]

/-- Two sets without a common member, one of them not empty, have different lowest members. -/
theorem lowest_ne_of_disjoint {a b : StationSet} (ha : a ≠ 0#16) (h : a &&& b = 0#16) : lowest a ≠ lowest b := by
  rcases lowest_cases a with ⟨_, hnone⟩ | ⟨k, hk, hmem, _⟩
  · exact absurd (stations_eq_zero hnone) ha
  · rcases lowest_cases b with ⟨hb, _⟩ | ⟨j, hj, hmem', _⟩
    · rw [hk, hb]
      exact Nat.ne_of_lt k.isLt
    · rw [hk, hj]
      intro heq
      have hsame : k = j := Fin.ext heq
      have hboth : hasStation (a &&& b) k = true := by
        rw [hasStation, BitVec.getLsbD_and]
        exact Bool.and_eq_true_iff.mpr ⟨hmem, hsame ▸ hmem'⟩
      rw [h, hasStation_zero] at hboth
      cases hboth

/-- Settles O24: of two sides of one size that have different lowest members exactly one is the lower. -/
theorem exactlyOneSideYields : Obligations.ExactlyOneSideYields := by
  refine ⟨⟨allSixteen_ascending, mem_allSixteen⟩, fun own other => ?_, fun a b ha hb hdisjoint => ?_⟩
  · rw [yields_iff, lowest_lt_iff]
    rfl
  · have hne := lowest_ne_of_disjoint ha hdisjoint
    have hforward := yields_iff a b
    have hback := yields_iff b a
    rw [Bool.eq_not, ne_eq, Bool.eq_iff_iff, hforward, hback]
    simp only [ha, hb, ne_eq, not_false_eq_true, true_and]
    omega

/-! ### One swap instruction -/

theorem hasChannel_channelBit (m : ChannelMask) (k : ChannelIndex) : hasChannel (m ||| channelBit k) k = true := by
  rw [hasChannel, BitVec.getLsbD_or, Bool.or_eq_true]
  right
  revert k
  decide

/-- The superseded entries take the channel, once or more often, and the others stand as they stood (R133). -/
theorem State.foldl_supersede (k : ChannelIndex) (l : List StagedPair) (s : State) (i : EntryIndex) :
    (l.foldl (fun s p => s.supersede k p.tag) s).entry i =
      if i ∈ l.map StagedPair.tag then
        { s.entry i with superseded := (s.entry i).superseded ||| channelBit k }
      else s.entry i := by
  induction l generalizing s with
  | nil => rfl
  | cons p l ih =>
    rw [List.foldl_cons, ih, State.supersede, State.entry_setEntry, List.map_cons]
    by_cases h : i = p.tag
    · subst h
      by_cases hl : p.tag ∈ l.map StagedPair.tag <;> simp [hl, BitVec.or_assoc]
    · simp [h]

/-- The pairs of the staged queue that the firing set names on the channel (R160, R161). -/
def State.firingPairs (s : State) (firing : List EntryIndex) (k : ChannelIndex) : List StagedPair :=
  (s.channel k).namedPairs (firing.filter fun i => hasChannel (s.entry i).record.channels k)

/-- The channel behind its swap instruction, before the superseded entries take note of it. -/
def State.swappedTo (s : State) (firing : List EntryIndex) (k : ChannelIndex) (w : StagedPair) : State :=
  s.setChannel k
    (Channel.start w.set
      ((s.channel k).otherPairs (firing.filter fun i => hasChannel (s.entry i).record.channels k)))

theorem State.swapChannel_none {firing : List EntryIndex} {k : ChannelIndex} (h : s.firingPairs firing k = []) :
    s.swapChannel firing k = s := by
  have hlast : ((s.channel k).namedPairs (firing.filter fun i => hasChannel (s.entry i).record.channels k)).getLast? =
      none := List.getLast?_eq_none_iff.mpr h
  simp only [State.swapChannel, hlast]

theorem State.swapChannel_some {firing : List EntryIndex} {k : ChannelIndex} {front : List StagedPair} {w : StagedPair}
    (h : s.firingPairs firing k = front ++ [w]) :
    s.swapChannel firing k =
      (front.filter fun p => decide (p.tag ≠ w.tag)).foldl (fun s p => s.supersede k p.tag)
        (s.swappedTo firing k w) := by
  have hpairs : (s.channel k).namedPairs (firing.filter fun i => hasChannel (s.entry i).record.channels k) =
      front ++ [w] := h
  have hothers : ((front ++ [w]).filter fun p => decide (p.tag ≠ w.tag)) = front.filter fun p => decide (p.tag ≠ w.tag) := by
    simp
  simp only [State.swapChannel, hpairs, List.getLast?_concat, hothers]
  rfl

theorem State.supersede_channels (k : ChannelIndex) (l : List StagedPair) (s : State) (j : ChannelIndex) :
    (l.foldl (fun s p => s.supersede k p.tag) s).channel j = s.channel j := by
  have hkeeps : Keeps [.entries] s (l.foldl (fun s p => s.supersede k p.tag) s) :=
    Keeps.foldl (fun (s : State) (p : StagedPair) => (setEntry_keeps s p.tag _ : Keeps [.entries] s (s.supersede k p.tag)))
      s l
  exact State.channel_congr (hkeeps .channels (by decide)) j

/-- The runtime state of a set that becomes active (R149, R160). -/
theorem Channel.start_runtime (set : ChannelSet) (staged : List StagedPair) :
    (Channel.start set staged).active = set ∧ (Channel.start set staged).periodEnds = 0#16 ∧
      (Channel.start set staged).position = 0 ∧ (Channel.start set staged).owed = false ∧
      (set.mode = .off ∨ set.mode = .level →
        (Channel.start set staged).run = .idle ∧ (Channel.start set staged).phaseRemaining = 0) ∧
      (set.mode = .periodic ∨ set.mode = .burst →
        (Channel.start set staged).run = (if set.phase = 0#16 then .running else .waiting) ∧
        (Channel.start set staged).phaseRemaining = set.phase.toNat) ∧
      (Channel.start set staged).periodsRemaining = (if set.mode = .burst then set.count.toNat else 0) := by
  unfold Channel.start
  cases set.mode with
  | off => simp
  | level => simp
  | periodic => by_cases h : set.phase = 0#16 <;> simp [h]
  | burst => by_cases h : set.phase = 0#16 <;> simp [h]

/-- Settles O27. -/
theorem latestStagedSetWins : Obligations.LatestStagedSetWins := by
  intro firing s k pairs hpairs
  have hnamed : s.firingPairs firing k = pairs := by
    rw [hpairs]
    refine List.filter_congr fun p _ => ?_
    rw [Bool.eq_iff_iff, List.contains_iff_mem, List.mem_filter, decide_eq_true_iff]
  refine ⟨fun hnone => State.swapChannel_none (hnamed.trans hnone), fun front w hw => ?_⟩
  have hswap := State.swapChannel_some (hnamed.trans hw)
  have hchannel (j : ChannelIndex) : (s.swapChannel firing k).channel j = (s.swappedTo firing k w).channel j := by
    rw [hswap, State.supersede_channels]
  have hentry (i : EntryIndex) : (s.swapChannel firing k).entry i =
      if i ∈ (front.filter fun p => decide (p.tag ≠ w.tag)).map StagedPair.tag then
        { s.entry i with superseded := (s.entry i).superseded ||| channelBit k }
      else s.entry i := by
    rw [hswap, State.foldl_supersede]
    rfl
  have hfront (i : EntryIndex) : i ∈ (front.filter fun p => decide (p.tag ≠ w.tag)).map StagedPair.tag ↔
      (∃ p ∈ front, p.tag = i) ∧ i ≠ w.tag := by
    simp only [List.mem_map, List.mem_filter, decide_eq_true_eq]
    constructor
    · rintro ⟨p, ⟨hp, hne⟩, rfl⟩
      exact ⟨⟨p, hp, rfl⟩, hne⟩
    · rintro ⟨⟨p, hp, rfl⟩, hne⟩
      exact ⟨p, ⟨hp, hne⟩, rfl⟩
  have hown : (s.swapChannel firing k).channel k =
      (Channel.start w.set ((s.channel k).otherPairs
        (firing.filter fun i => hasChannel (s.entry i).record.channels k))).settle s.isActive := by
    rw [hchannel, State.swappedTo, State.channel_setChannel, if_pos rfl]
  obtain ⟨hactive, hends, hposition, howed, hidle, hmoves, hperiods⟩ := Channel.start_runtime w.set
    ((s.channel k).otherPairs (firing.filter fun i => hasChannel (s.entry i).record.channels k))
  have hguard : ((s.swapChannel firing k).channel k).forced = (w.set.guard && decide (s.line.state ≠ .active)) := by
    rw [hown, Channel.settle_forced, hactive, State.isActive, decide_not]
  refine ⟨by rw [hown]; exact hactive, ?_, by rw [hown]; exact hends, by rw [hown]; exact hposition,
    by rw [hown]; exact howed, by rw [hown]; exact Channel.settle_pinFits _ _, by rw [hown]; exact hidle,
    by rw [hown]; exact hmoves, by rw [hown]; exact hperiods, hguard, fun hguarded hinactive => ?_, fun p hp hne => ?_,
    fun i hi hne => ?_, fun i hi => ?_, fun j hj => ?_⟩
  · rw [hown, Channel.settle_staged, Channel.start_staged, Channel.otherPairs, hpairs]
    refine List.filter_congr fun p hp => ?_
    rw [Bool.eq_iff_iff]
    simp [hp]
  · rw [hown] at hguard ⊢
    rw [Channel.settle_pin, Channel.pinLevel_safe (.inl (by rw [hguard, hguarded]; simpa using hinactive)),
      Channel.settle_active, hactive]
  · rw [hentry, if_pos ((hfront p.tag).mpr ⟨⟨p, hp, rfl⟩, hne⟩)]
    exact hasChannel_channelBit _ k
  · rw [hentry, if_pos ((hfront i).mpr ⟨hi, hne⟩)]
    rfl
  · rw [hentry, if_neg]
    rw [hfront]
    rintro ⟨⟨p, hp, rfl⟩, hne⟩
    exact hi.elim (fun h => h p hp rfl) hne
  · rw [hchannel, State.swappedTo, State.channel_setChannel, if_neg hj]

/-! ### The peer table closes a round -/

/-- One record is closed, if it is in use (R66). -/
def State.closePeer (c : Round) (s : State) (k : Station) : State :=
  if s.peerInUse k = true then s.setPeer k ((s.peer k).closed c s.settings.lossLimit) else s

/-- Every record in use is closed (R67, R68). -/
def State.closedPeers (s : State) (c : Round) : State := allSixteen.foldl (State.closePeer c) s

theorem State.closePeer_keeps (c : Round) (s : State) (k : Station) : Keeps [.peers] s (s.closePeer c k) :=
  Keeps.ite (setPeer_keeps s k _) (Keeps.refl _ s)

theorem State.closedPeers_keeps (s : State) (c : Round) : Keeps [.peers] s (s.closedPeers c) :=
  Keeps.foldl (State.closePeer_keeps c) s allSixteen

theorem State.closePeer_peer (c : Round) (s : State) (k j : Station) :
    (s.closePeer c k).peer j =
      if j = k ∧ s.peerInUse j = true then (s.peer j).closed c s.settings.lossLimit else s.peer j := by
  unfold State.closePeer
  by_cases huse : s.peerInUse k = true
  · rw [if_pos huse, State.peer_setPeer]
    by_cases h : j = k
    · subst h; simp [huse]
    · simp [h]
  · rw [if_neg huse]
    by_cases h : j = k
    · subst h; simp [huse]
    · simp [h]

/-- Each peer of a list, none twice, that is in use is closed, and the others stand as they stood. -/
theorem State.foldl_closePeer (c : Round) (l : List Station) (hl : l.Nodup) (s : State) (j : Station) :
    (l.foldl (State.closePeer c) s).peer j =
      if j ∈ l ∧ s.peerInUse j = true then (s.peer j).closed c s.settings.lossLimit else s.peer j := by
  induction l generalizing s with
  | nil => simp
  | cons k l ih =>
    obtain ⟨hk, hl⟩ := List.nodup_cons.mp hl
    have hsettings : (s.closePeer c k).settings = s.settings := s.closePeer_keeps c k .settings (by decide)
    have htimer : (s.closePeer c k).timer = s.timer := s.closePeer_keeps c k .timer (by decide)
    have huse : (s.closePeer c k).peerInUse j = s.peerInUse j := by rw [State.peerInUse, hsettings, htimer, State.peerInUse]
    rw [List.foldl_cons, ih hl, huse, hsettings, State.closePeer_peer]
    by_cases h : j = k
    · subst h; simp [hk]
    · simp [h]

theorem State.closedPeers_peer (s : State) (c : Round) (k : Station) :
    (s.closedPeers c).peer k =
      if s.peerInUse k = true then (s.peer k).closed c s.settings.lossLimit else s.peer k := by
  rw [State.closedPeers, State.foldl_closePeer c allSixteen allSixteen_nodup s k]
  simp only [mem_allSixteen, true_and]

theorem State.closePeer_start (c : Round) (s : State) (k : Station) :
    (s.closePeer c k).peers.startRound = s.peers.startRound := by
  unfold State.closePeer
  split <;> rfl

theorem State.foldl_closePeer_start (c : Round) (l : List Station) (s : State) :
    (l.foldl (State.closePeer c) s).peers.startRound = s.peers.startRound := by
  induction l generalizing s with
  | nil => rfl
  | cons k l ih => rw [List.foldl_cons, ih, State.closePeer_start]

theorem State.closedPeers_start (s : State) (c : Round) : (s.closedPeers c).peers.startRound = s.peers.startRound := by
  rw [State.closedPeers, State.foldl_closePeer_start]

theorem State.hasStation_peersThat (s : State) (c : Round) (test : PeerRecord → PeerRecord → Bool) (k : Station) :
    hasStation (s.peersThat c test) k = (s.peerInUse k && test (s.peer k) ((s.peer k).closed c s.settings.lossLimit)) := by
  have h := hasStation_foldl (fun k => s.peerInUse k && test (s.peer k) ((s.peer k).closed c s.settings.lossLimit))
    allSixteen 0#16 k
  rw [State.peersThat, h, hasStation_zero, decide_eq_true (mem_allSixteen k), Bool.true_and, Bool.false_or]

theorem State.peerInUse_iff (s : State) (k : Station) :
    s.peerInUse k = true ↔ k.val < s.settings.size ∧ k ≠ s.timer.station := decide_eq_true_iff

theorem PeerRecord.heard_iff (p : PeerRecord) (c : Round) :
    p.heard c = true ↔ p.lastRound = some c ∧ p.departed = false := by
  simp [PeerRecord.heard]

theorem PeerRecord.closed_heard {p : PeerRecord} {c : Round} (h : p.lastRound = some c ∧ p.departed = false) (limit : Nat) :
    p.closed c limit = { p with present := true, silence := 0 } :=
  if_pos ((p.heard_iff c).mpr h)

theorem PeerRecord.closed_silent {p : PeerRecord} {c : Round} (h : p.lastRound ≠ some c ∨ p.departed = true)
    (h7 : p.silence ≤ 7) (limit : Nat) :
    p.closed c limit =
      { p with
        silence := min 7 (p.silence + 1), departed := false
        present := p.present && decide (min 7 (p.silence + 1) ≠ limit) } := by
  have hnot : ¬p.heard c = true := by
    rw [PeerRecord.heard_iff]
    rintro ⟨hround, hhere⟩
    rcases h with h | h
    · exact h hround
    · rw [hhere] at h
      cases h
  have hsilence : (if p.silence < Config.maxSilence then p.silence + 1 else p.silence) = min 7 (p.silence + 1) := by
    have hmax : Config.maxSilence = 7 := rfl
    rw [hmax]
    split <;> omega
  rw [PeerRecord.closed, if_neg hnot]
  simp only [hsilence]

/-! ### The closing of a round as one change -/

/-- Nothing is named in an empty notice. -/
theorem State.lossNotice_none (s : State) : s.lossNotice 0#16 = s := by
  have hlacks (e : Entry) : e.lacks 0#16 = false := by
    rw [← Bool.not_eq_true, Entry.lacks, List.any_eq_true]
    rintro ⟨k, hk, _⟩
    rw [mem_members, hasStation, BitVec.getLsbD_and] at hk
    simp at hk
  have hwork : allSixteen.foldl
      (fun s i =>
        if (s.entry i).state = .armed ∧ (s.entry i).lacks 0#16 = true then s.closeEntry i .abandoned (some .peerLost)
        else s) s = s := by
    simp only [hlacks, Bool.false_eq_true, and_false, if_false]
    rfl
  have hnone : State.newlyDone s s = [] := by simp [State.newlyDone]
  rw [State.lossNotice, State.tableReaction, hwork, State.appendClosed, hnone, List.append_nil]
  rfl

/-- The values by which the state behind the closed records differs. -/
def State.closingDress (s : State) (p : PeerTable) (joined lost : StationSet) : Dress where
  correction := s.timer.correction
  line := s.line
  good := s.frames.good
  goodCount := s.counters.good
  peers := p
  port := s.port
  events := (if joined = 0#16 then 0#8 else Event.peerJoined.bit) ||| (if lost = 0#16 then 0#8 else Event.peerLost.bit)
  joined := joined
  lost := lost

/-- The close of a round: the losses' notice, with the records, the latches and nothing else besides (R66 to R70). -/
theorem State.closePeers_dressed (s : State) (p : PeerTable) (c : Round) {joined lost : StationSet}
    (hjoined : joined = (s.setPeers p).peersThat c fun p q => !p.present && q.present)
    (hlost : lost = (s.setPeers p).peersThat c fun p q => p.present && !q.present) :
    (s.setPeers p).closePeers c =
      (s.lossNotice lost).dressed (s.closingDress ((s.setPeers p).closedPeers c).peers joined lost) := by
  have hraised : ((s.setPeers p).closedPeers c).raisePeers joined lost =
      s.dressed (s.closingDress ((s.setPeers p).closedPeers c).peers joined lost) := by
    have hclosed := ((setPeers_keeps s p).trans ((s.setPeers p).closedPeers_keeps c)).eq_taking
    generalize (s.setPeers p).closedPeers c = v at *
    rw [hclosed]
    rfl
  have hnotice : (s.setPeers p).closePeers c =
      if lost = 0#16 then ((s.setPeers p).closedPeers c).raisePeers joined lost
      else (((s.setPeers p).closedPeers c).raisePeers joined lost).lossNotice lost := by
    rw [hjoined, hlost]
    rfl
  rw [hnotice, hraised]
  split
  · next h => rw [h, State.lossNotice_none]
  · exact State.lossNotice_dressed _ s lost

theorem State.peersBoundary_ahead {r c : Round} (htracking : s.peers.tracking = true) (hstart : s.peers.startRound = some r)
    (hne : r ≠ c) : s.peersBoundary c = s := by
  rw [State.peersBoundary, if_pos htracking, hstart]
  exact if_neg hne

/-- The peer table closes the round once its start round is reached (R63, R66). -/
theorem State.peersBoundary_closes {c : Round} (htracking : s.peers.tracking = true)
    (hstart : s.peers.startRound = none ∨ s.peers.startRound = some c) :
    s.peersBoundary c = (s.setPeers { s.peers with startRound := none }).closePeers c := by
  rw [State.peersBoundary, if_pos htracking]
  rcases hstart with h | h
  · have hsame : s.setPeers { s.peers with startRound := none } = s := by
      rw [← h]
      rfl
    rw [hsame, h]
  · rw [h]
    exact if_pos rfl

/-- The losses and joins of a round (R67, R68). -/
theorem State.lost_iff (s : State) (c : Round) (k : Station) (h7 : (s.peer k).silence ≤ 7) :
    hasStation (s.peersThat c fun p q => p.present && !q.present) k = true ↔
      (k.val < s.settings.size ∧ k ≠ s.timer.station ∧
        ((s.peer k).lastRound ≠ some c ∨ (s.peer k).departed = true) ∧ (s.peer k).present = true ∧
        min 7 ((s.peer k).silence + 1) = s.settings.lossLimit) := by
  rw [State.hasStation_peersThat, Bool.and_eq_true, State.peerInUse_iff]
  by_cases h : (s.peer k).lastRound = some c ∧ (s.peer k).departed = false
  · rw [PeerRecord.closed_heard h]
    simp [h.1, h.2]
  · have hsilent : (s.peer k).lastRound ≠ some c ∨ (s.peer k).departed = true := by
      rw [Classical.not_and_iff_not_or_not, Bool.not_eq_false] at h
      exact h
    rw [PeerRecord.closed_silent hsilent h7]
    simp only [hsilent, true_and, and_assoc]
    cases (s.peer k).present <;> simp

theorem State.joined_iff (s : State) (c : Round) (k : Station) :
    hasStation (s.peersThat c fun p q => !p.present && q.present) k = true ↔
      (k.val < s.settings.size ∧ k ≠ s.timer.station ∧ (s.peer k).lastRound = some c ∧ (s.peer k).departed = false ∧
        (s.peer k).present = false) := by
  rw [State.hasStation_peersThat, Bool.and_eq_true, State.peerInUse_iff]
  by_cases h : (s.peer k).lastRound = some c ∧ (s.peer k).departed = false
  · rw [PeerRecord.closed_heard h]
    simp [h.1, h.2, and_assoc]
  · have hkept : ((s.peer k).closed c s.settings.lossLimit).present = true → (s.peer k).present = true := by
      rw [PeerRecord.closed, if_neg (fun hheard => h (((s.peer k).heard_iff c).mp hheard))]
      intro hboth
      exact (Bool.and_eq_true_iff.mp hboth).1
    constructor
    · rintro ⟨_, htest⟩
      rw [Bool.and_eq_true, Bool.not_eq_true'] at htest
      rw [hkept htest.2] at htest
      cases htest.1
    · rintro ⟨_, _, hround, hhere, _⟩
      exact absurd ⟨hround, hhere⟩ h

/-- The good senders stand behind a notice as before. -/
theorem State.lossNotice_good (s : State) (lost : StationSet) : (s.lossNotice lost).frames.good = s.frames.good := by
  obtain ⟨u, hwork, happend⟩ : ∃ u, TableWork [] s u ∧ s.lossNotice lost = State.appendClosed s u :=
    ⟨_, TableWork.closeEach (fun s i => (s.entry i).state = .armed ∧ (s.entry i).lacks lost = true) .abandoned
      (some .peerLost) (fun _ _ h => by simp [h.1]) s allSixteen, rfl⟩
  have hframes : (State.appendClosed s u).frames = u.frames := rfl
  rw [happend, hframes, hwork.frames]

/-- The closed round, whole: the notice's own changes, the records, and what is raised (R66 to R70). -/
theorem State.peersBoundary_eq {c : Round} (htracking : s.peers.tracking = true)
    (hstart : s.peers.startRound = none ∨ s.peers.startRound = some c) {joined lost : StationSet}
    (hjoined : joined = (s.setPeers { s.peers with startRound := none }).peersThat c fun p q => !p.present && q.present)
    (hlost : lost = (s.setPeers { s.peers with startRound := none }).peersThat c fun p q => p.present && !q.present) :
    s.peersBoundary c =
      { s.lossNotice lost with
        peers := ((s.setPeers { s.peers with startRound := none }).closedPeers c).peers
        latches := (s.raisePeers joined lost).latches } := by
  rw [State.peersBoundary_closes htracking hstart, State.closePeers_dressed s _ c hjoined hlost]
  have hv := (lossNotice_keeps s lost).eq_taking
  have hgood : { (s.lossNotice lost).frames with good := s.frames.good } = (s.lossNotice lost).frames := by
    rw [← s.lossNotice_good lost]
  generalize s.lossNotice lost = v at *
  generalize ((s.setPeers { s.peers with startRound := none }).closedPeers c).peers = p
  rw [hv]
  exact congrArg
    (fun f : FrameLayer =>
      { s with
        frames := f, entries := v.entries, completions := v.completions, channels := v.channels, peers := p
        latches := (s.raisePeers joined lost).latches }) hgood

theorem State.raisePeers_bits (s : State) (joined lost : StationSet) :
    (s.raisePeers joined lost).latches.latched.getLsbD 5 =
        (s.latches.latched.getLsbD 5 || decide (lost ≠ 0#16)) ∧
      (s.raisePeers joined lost).latches.latched.getLsbD 6 =
        (s.latches.latched.getLsbD 6 || decide (joined ≠ 0#16)) := by
  have hlatched : (s.raisePeers joined lost).latches.latched = s.latches.latched |||
      ((if joined = 0#16 then 0#8 else Event.peerJoined.bit) ||| (if lost = 0#16 then 0#8 else Event.peerLost.bit)) := rfl
  rw [hlatched]
  by_cases hj : joined = 0#16 <;> by_cases hl : lost = 0#16 <;> simp [hj, hl, Event.bit]

/-- Settles O25: the close of a round is the losses' notice on a state that differs in nothing the notice looks at. -/
theorem peersCloseRound : Obligations.PeersCloseRound := by
  intro s c htracking
  refine ⟨fun r hr hne => State.peersBoundary_ahead htracking hr hne, fun hstart h7 => ?_, fun hstart => ?_⟩
  · have hlost (k : Station) :=
      (s.setPeers { s.peers with startRound := none }).lost_iff c k (h7 k)
    have hjoined (k : Station) := (s.setPeers { s.peers with startRound := none }).joined_iff c k
    have heq := State.peersBoundary_eq htracking hstart rfl rfl
    generalize (s.setPeers { s.peers with startRound := none }).peersThat c (fun p q => p.present && !q.present) = lost at *
    generalize (s.setPeers { s.peers with startRound := none }).peersThat c (fun p q => !p.present && q.present) = joined at *
    have hfive := (s.raisePeers_bits joined lost).1
    have hbits : (s.peersBoundary c).latches.latched.getLsbD 5 =
        (s.latches.latched.getLsbD 5 || decide (lost ≠ 0#16)) := by
      rw [heq]
      exact hfive
    refine ⟨lost, joined, hlost, hjoined, ?_, fun hsome => ?_, fun hnone => ?_⟩
    · rw [heq]
    · rw [hbits, decide_eq_true hsome, Bool.or_true]
    · rw [hbits, decide_eq_false (not_not_intro hnone), Bool.or_false]
  · have hjoins (k : Station) := (s.setPeers { s.peers with startRound := none }).hasStation_peersThat c
      (fun p q => !p.present && q.present) k
    have hlosses (k : Station) := (s.setPeers { s.peers with startRound := none }).hasStation_peersThat c
      (fun p q => p.present && !q.present) k
    have hclosed (k : Station) := (s.setPeers { s.peers with startRound := none }).closedPeers_peer c k
    have hstarted := (s.setPeers { s.peers with startRound := none }).closedPeers_start c
    have heq := State.peersBoundary_eq htracking hstart rfl rfl
    generalize (s.setPeers { s.peers with startRound := none }).peersThat c (fun p q => p.present && !q.present) = lost at *
    generalize (s.setPeers { s.peers with startRound := none }).peersThat c (fun p q => !p.present && q.present) = joined at *
    generalize (s.setPeers { s.peers with startRound := none }).closedPeers c = w at *
    have hpeers : (s.peersBoundary c).peers = w.peers := by rw [heq]
    have hlatches : (s.peersBoundary c).latches = (s.raisePeers joined lost).latches := by rw [heq]
    have hpeer (k : Station) : (s.peersBoundary c).peer k =
        if s.peerInUse k = true then (s.peer k).closed c s.settings.lossLimit else s.peer k := by
      rw [State.peer, hpeers]
      exact hclosed k
    have hjoined (k : Station) : hasStation (s.peersBoundary c).latches.joined k = (hasStation s.latches.joined k ||
        (s.peerInUse k && (!(s.peer k).present && ((s.peer k).closed c s.settings.lossLimit).present))) := by
      rw [hlatches]
      exact (hasStation_or s.latches.joined joined k).trans (congrArg (hasStation s.latches.joined k || ·) (hjoins k))
    have hlost (k : Station) : hasStation (s.peersBoundary c).latches.lost k = (hasStation s.latches.lost k ||
        (s.peerInUse k && ((s.peer k).present && !((s.peer k).closed c s.settings.lossLimit).present))) := by
      rw [hlatches]
      exact (hasStation_or s.latches.lost lost k).trans (congrArg (hasStation s.latches.lost k || ·) (hlosses k))
    refine ⟨by rw [hpeers]; exact hstarted, fun k => ⟨fun hin hother hround hhere => ?_,
      fun hin hother h7 hsilent => ?_, fun hout => ?_⟩⟩
    · have huse : s.peerInUse k = true := (s.peerInUse_iff k).mpr ⟨hin, hother⟩
      rw [hpeer, if_pos huse, hjoined, PeerRecord.closed_heard ⟨hround, hhere⟩]
      refine ⟨rfl, rfl, by simp [huse], fun habsent => ?_⟩
      have hin' : hasStation joined k = true := by
        rw [hjoins]
        exact Bool.and_eq_true_iff.mpr ⟨huse, by
          have hshut := PeerRecord.closed_heard (p := s.peer k) ⟨hround, hhere⟩ s.settings.lossLimit
          exact Bool.and_eq_true_iff.mpr ⟨congrArg not habsent, congrArg PeerRecord.present hshut⟩⟩
      have hsome : joined ≠ 0#16 := fun h => by rw [h, hasStation_zero] at hin'; cases hin'
      rw [hlatches, (s.raisePeers_bits joined lost).2, decide_eq_true hsome, Bool.or_true]
    · have huse : s.peerInUse k = true := (s.peerInUse_iff k).mpr ⟨hin, hother⟩
      rw [hpeer, if_pos huse, hlost, PeerRecord.closed_silent hsilent h7]
      refine ⟨rfl, rfl, rfl, ?_⟩
      rw [huse]
      cases (s.peer k).present <;> simp
    · have hnot : ¬s.peerInUse k = true := by
        rw [State.peerInUse_iff]
        rintro ⟨hin, hother⟩
        rcases hout with h | h
        · omega
        · exact hother h
      rw [hpeer, if_neg hnot]

end Sys2Proof.Machine
end

section
/-!
PROOFS about what entries take with them when they close, and about the line controller's reaction to a round boundary, case by
case and whole (R47 to R59, R90, R98, R99).
-/

namespace Sys2Proof.Machine

-- One lemma after another: side by side, the evaluations of `decide` would each hold a thread.
set_option Elab.async false

variable {s t u : State}

/-! ### What entries take with them when they close -/

/-- The frame layer without these entries in the announce queue and in the assembled frame (R28, R30, R90). -/
def FrameLayer.shed (f : FrameLayer) (gone : EntryIndex → Bool) : FrameLayer :=
  { f with
    announce :=
      { uncarried := f.announce.uncarried.filter fun i => !gone i
        carried := f.announce.carried.filter fun i => !gone i }
    assembled := f.assembled.map fun a => { a with named := a.named.filter fun i => !gone i } }

/-- The channel without the pairs of these entries (R90, R159). -/
def Channel.shed (c : Channel) (gone : EntryIndex → Bool) : Channel :=
  { c with staged := c.staged.filter fun p => !gone p.tag }

theorem FrameLayer.shed_none (f : FrameLayer) : (f.shed fun _ => false) = f := by
  cases f with
  | mk announce assembled transmitting good foreign mark view =>
    cases assembled <;>
      simp only [FrameLayer.shed, Bool.not_false, filter_true_eq, Option.map_none, Option.map_some]

theorem Channel.shed_none (c : Channel) : (c.shed fun _ => false) = c := by
  simp only [Channel.shed, Bool.not_false, filter_true_eq]

theorem FrameLayer.shed_shed (f : FrameLayer) (g h : EntryIndex → Bool) :
    (f.shed g).shed h = f.shed fun i => g i || h i := by
  simp only [FrameLayer.shed, List.filter_filter, Option.map_map, Function.comp_def, Bool.not_or, Bool.and_comm]

theorem Channel.shed_shed (c : Channel) (g h : EntryIndex → Bool) : (c.shed g).shed h = c.shed fun i => g i || h i := by
  simp only [Channel.shed, List.filter_filter, Bool.not_or, Bool.and_comm]

/-- The entries that have become DONE. -/
def State.newly (s t : State) (i : EntryIndex) : Bool :=
  decide ((s.entry i).state ≠ .done ∧ (t.entry i).state = .done)

theorem State.newly_iff (s t : State) (i : EntryIndex) :
    s.newly t i = true ↔ (s.entry i).state ≠ .done ∧ (t.entry i).state = .done := decide_eq_true_iff

/-- From `s` to `t` some entries close, a DONE one stays DONE, and announce queue, assembled frame and staged queues lose
those that close and no others. -/
structure State.Closes (s t : State) : Prop where
  done : ∀ i, (s.entry i).state = .done → (t.entry i).state = .done
  frames : t.frames = s.frames.shed (s.newly t)
  channel : ∀ k, t.channel k = (s.channel k).shed (s.newly t)

/-- A change that closes no entry and leaves announce queue, assembled frame and channels alone. -/
theorem State.Closes.of_kept (hstate : ∀ i, (t.entry i).state = .done ↔ (s.entry i).state = .done)
    (hframes : t.frames = s.frames) (hchannel : ∀ k, t.channel k = s.channel k) : s.Closes t := by
  have hnone : s.newly t = fun _ => false := by
    funext i
    rw [← Bool.not_eq_true, State.newly_iff, hstate]
    exact fun h => h.1 h.2
  refine ⟨fun i hi => (hstate i).mpr hi, ?_, fun k => ?_⟩
  · rw [hnone, FrameLayer.shed_none, hframes]
  · rw [hnone, Channel.shed_none, hchannel]

theorem State.Closes.refl (s : State) : s.Closes s := .of_kept (fun _ => Iff.rfl) rfl fun _ => rfl

theorem State.Closes.newly_trans (h : s.Closes t) (h' : t.Closes u) :
    s.newly u = fun i => s.newly t i || t.newly u i := by
  funext i
  have hs := h.done i
  have ht := h'.done i
  rw [Bool.eq_iff_iff, Bool.or_eq_true, State.newly_iff, State.newly_iff, State.newly_iff]
  constructor
  · rintro ⟨hnot, hdone⟩
    by_cases hmid : (t.entry i).state = .done
    · exact .inl ⟨hnot, hmid⟩
    · exact .inr ⟨hmid, hdone⟩
  · rintro (⟨hnot, hmid⟩ | ⟨hnot, hdone⟩)
    · exact ⟨hnot, ht hmid⟩
    · exact ⟨fun h => hnot (hs h), hdone⟩

theorem State.Closes.trans (h : s.Closes t) (h' : t.Closes u) : s.Closes u := by
  refine ⟨fun i hi => h'.done i (h.done i hi), ?_, fun k => ?_⟩
  · rw [h'.frames, h.frames, FrameLayer.shed_shed, h.newly_trans h']
  · rw [h'.channel, h.channel, Channel.shed_shed, h.newly_trans h']

theorem State.Closes.foldl {α : Type} {f : State → α → State} (hf : ∀ s a, State.Closes s (f s a)) (l : List α) (s : State) :
    s.Closes (l.foldl f s) := by
  induction l generalizing s with
  | nil => exact .refl s
  | cons a l ih => exact (hf s a).trans (ih (f s a))

/-- An entry that is not DONE closes (R90). -/
theorem State.Closes.closeEntry (s : State) (i : EntryIndex) (o : EntryOutcome) (r : Option Reason)
    (hnot : (s.entry i).state ≠ .done) : s.Closes (s.closeEntry i o r) := by
  have hnewly : s.newly (s.closeEntry i o r) = fun j => decide (j = i) := by
    funext j
    rw [Bool.eq_iff_iff, State.newly_iff, State.closeEntry_entry, decide_eq_true_iff]
    by_cases h : j = i
    · subst h; simp [hnot]
    · simp [h]
  refine ⟨fun j hj => ?_, ?_, fun k => ?_⟩
  · rw [State.closeEntry_entry]
    split
    · rfl
    · exact hj
  · have hframes : (s.closeEntry i o r).frames =
        ((s.setEntry i { s.entry i with state := .done, outcome := some o, reason := r }).leaveAnnounce i).frames :=
      State.discardStaged_frames _ i
    rw [hnewly, hframes]
    simp only [FrameLayer.shed, ← decide_not]
    rfl
  · rw [hnewly, State.closeEntry_channel]
    simp only [Channel.shed, ← decide_not]
    rfl

/-- The same entry with its state not DONE or DONE as before. -/
theorem State.Closes.setEntry (s : State) (i : EntryIndex) (e : Entry) (h : e.state = .done ↔ (s.entry i).state = .done) :
    s.Closes (s.setEntry i e) := by
  refine .of_kept (fun j => ?_) rfl fun _ => rfl
  rw [State.entry_setEntry]
  by_cases hj : j = i
  · subst hj; simp [h]
  · simp [hj]

/-- A reaction's appends. -/
theorem State.Closes.appendClosed (h : s.Closes t) (before : State) : s.Closes (State.appendClosed before t) :=
  ⟨h.done, h.frames, h.channel⟩

/-- Each entry of a list closes that passes a test which DONE entries fail. -/
theorem State.Closes.closeEach (p : State → EntryIndex → Prop) [∀ s i, Decidable (p s i)] (o : EntryOutcome)
    (r : Option Reason) (hp : ∀ s i, p s i → (s.entry i).state ≠ .done) (s : State) (l : List EntryIndex) :
    s.Closes (l.foldl (fun s i => if p s i then s.closeEntry i o r else s) s) := by
  refine .foldl (fun s i => ?_) l s
  split
  · next h => exact .closeEntry s i o r (hp s i h)
  · exact .refl s

theorem State.Closes.abandonPending (s : State) (r : Reason) : s.Closes (s.abandonPending r) :=
  (State.Closes.closeEach (fun s i => (s.entry i).pending = true) .abandoned (some r)
    (fun s i h hdone => by simp [Entry.pending, hdone] at h) s allSixteen).appendClosed s

/-- The entries that the line controller's move to LISTEN or OFFLINE closes are the pending ones (R98, R99). -/
theorem State.abandonPending_newly (s : State) (r : Reason) : s.newly (s.abandonPending r) = fun i => (s.entry i).pending := by
  funext i
  rw [Bool.eq_iff_iff, State.newly_iff, State.abandonPending_entry]
  by_cases h : (s.entry i).pending = true
  · have hnot : (s.entry i).state ≠ .done := fun hdone => by simp [Entry.pending, hdone] at h
    rw [if_pos h]
    exact ⟨fun _ => h, fun _ => ⟨hnot, rfl⟩⟩
  · rw [if_neg h]
    exact ⟨fun hc => absurd hc.2 hc.1, fun hc => absurd hc h⟩

/-! ### A change of the line controller, whole -/

theorem State.shed_settle (c : Channel) (gone : EntryIndex → Bool) (a : Bool) : (c.settle a).shed gone = (c.shed gone).settle a :=
  rfl

/-- What entry to LISTEN or OFFLINE leaves of the frame layer (R27, R34, R98, R99). -/
theorem State.enter_frames_shed (s : State) {target : LineState} (ht : target = .listen ∨ target = .offline) :
    (s.enter target).frames =
      { s.frames.shed (fun i => (s.entry i).pending) with good := 0#16, foreign := 0#16, mark := false, view := 0#16 } := by
  have hturned := s.turned_keeps target
  have hentry (i : EntryIndex) : (s.turned target).entry i = s.entry i := State.entry_congr (hturned .entries (by decide)) i
  have hframes := (State.Closes.abandonPending (s.turned target) (if target = .listen then .resync else .left)).frames
  rw [State.abandonPending_newly, hturned .frames (by decide)] at hframes
  simp only [hentry] at hframes
  rw [State.enter_idle s ht, State.clearRecords, State.setFrames_frames, State.setPeers_frames, hframes]

/-- What a change of state leaves of a channel (R58, R90). -/
theorem State.enter_channel_shed (s : State) {target : LineState} (ht : target = .listen ∨ target = .offline)
    (k : ChannelIndex) :
    (s.enter target).channel k = ((s.channel k).shed fun i => (s.entry i).pending).settle (decide (target = .active)) := by
  have hturned := s.turned_keeps target
  have hentry (i : EntryIndex) : (s.turned target).entry i = s.entry i := State.entry_congr (hturned .entries (by decide)) i
  have hchannel := (State.Closes.abandonPending (s.turned target) (if target = .listen then .resync else .left)).channel k
  rw [State.abandonPending_newly, State.turned_channel] at hchannel
  simp only [hentry] at hchannel
  have hkept : (s.enter target).channel k =
      ((s.turned target).abandonPending (if target = .listen then .resync else .left)).channel k := by
    have hkept (w : State) : ((w.setPeers PeerTable.cleared).clearRecords).channel k = w.channel k := rfl
    rw [State.enter_idle s ht, hkept]
  rw [hkept, hchannel, State.shed_settle]

/-- A change of state with what the line controller does besides: its own record before and behind it, events raised with
it, and the peer table. -/
def State.movedTo (u : State) (before behind : LineController) (bits : EventSet) (p : PeerTable) : State :=
  { (u.setLine before).enter behind.state with
    line := behind, latches := ((u.setLine before).enter behind.state).latches.add bits 0#16 0#16, peers := p }

/-- The events that the line controller raises at a boundary besides STATE_CHANGE (R47, R51). -/
def LineState.raises (l target : LineState) : EventSet :=
  (if l = .coldstart then 0x10#8 else 0x00#8) ||| (if l ≠ .integrating ∧ target = .listen then 0x08#8 else 0x00#8)

/-- A change of state as it is, with nothing besides. -/
theorem State.enter_movedTo (u : State) (before : LineController) (target : LineState) :
    (u.setLine before).enter target =
      u.movedTo before ((u.setLine before).changedLine target) 0#8 ((u.setLine before).enter target).peers := by
  have hline := (u.setLine before).enter_line target
  have hstate : ((u.setLine before).changedLine target).state = target := rfl
  rw [State.movedTo, hstate, Latches.add_none, ← hline]

/-- An event raised behind it. -/
theorem State.movedTo_raise (u : State) (before behind : LineController) (p : PeerTable) (e : Event) :
    (u.movedTo before behind 0#8 p).raise e = u.movedTo before behind e.bit p := by
  have hadd (l : Latches) : (l.add 0#8 0#16 0#16).add e.bit 0#16 0#16 = l.add e.bit 0#16 0#16 := by
    rw [Latches.add_none]
  simp only [State.movedTo, State.raise, State.setLatches, hadd]

/-- The line controller's record set behind it, in the same state. -/
theorem State.movedTo_setLine (u : State) (before behind l : LineController) (bits : EventSet) (p : PeerTable)
    (h : l.state = behind.state) : (u.movedTo before behind bits p).setLine l = u.movedTo before l bits p := by
  simp only [State.movedTo, State.setLine, h]

/-- The peer table set behind it. -/
theorem State.movedTo_setPeers (u : State) (before behind : LineController) (bits : EventSet) (p q : PeerTable) :
    (u.movedTo before behind bits p).setPeers q = u.movedTo before behind bits q := rfl

theorem State.enter_movedTo_here (u : State) (target : LineState) :
    u.enter target = u.movedTo u.line (u.changedLine target) 0#8 (u.enter target).peers :=
  u.enter_movedTo u.line target

/-- The fourth COLD frame is unanswered (R47). -/
theorem State.becomeAlone_movedTo (u : State) (opening : Round) :
    ∃ p, u.becomeAlone opening =
      u.movedTo u.line { u.changedLine .active with alone := true, coldSent := 0 } 0x10#8 p := by
  have henter := u.enter_movedTo_here .active
  unfold State.becomeAlone State.startTracking
  rw [henter]
  dsimp only
  split
  · refine ⟨(u.enter .active).peers, ?_⟩
    rw [State.movedTo_setLine u _ _ _ _ _ (by rfl), State.movedTo_raise]
    rfl
  · refine ⟨{ (u.enter .active).peers with tracking := true, startRound := some opening }, ?_⟩
    rw [State.movedTo_setPeers, State.movedTo_setLine u _ _ _ _ _ (by rfl), State.movedTo_raise]
    rfl

theorem State.yield_leave (u : State) (h : u.line.leavePending = true) : u.yield = u.enter .offline := if_pos h

theorem State.yield_listen (u : State) (h : u.line.leavePending = false) :
    u.yield = u.movedTo u.line (u.changedLine .listen) 0x08#8 (u.enter .listen).peers := by
  rw [State.yield, if_neg (by rw [h]; exact Bool.false_ne_true), State.enter_movedTo_here, State.movedTo_raise]
  rfl

/-- The entry to PASSIVE by the exclusion check (R52). -/
theorem State.exclusion_movedTo (u : State) :
    (u.setLine { u.line with hold := 0 }).enter .passive =
      u.movedTo { u.line with hold := 0 } ((u.setLine { u.line with hold := 0 }).changedLine .passive) 0#8
        ((u.setLine { u.line with hold := 0 }).enter .passive).peers :=
  u.enter_movedTo { u.line with hold := 0 } .passive

/-- The eighth boundary in PASSIVE (R53). -/
theorem State.integrates_movedTo (u : State) (opening : Round) :
    (u.enter .integrating).setLine { (u.enter .integrating).line with integration := some opening } =
      u.movedTo u.line { u.changedLine .integrating with integration := some opening } 0#8 (u.enter .integrating).peers := by
  have hline : (u.enter .integrating).line = u.changedLine .integrating := u.enter_line .integrating
  rw [hline]
  conv => lhs; rw [State.enter_movedTo_here]
  rw [State.movedTo_setLine u _ _ _ _ _ (by rfl)]

/-! ### The line controller's reaction, case by case (R47 to R55) -/

section

variable {c opening : Round} {good foreign : StationSet}

theorem State.lineBoundary_idle (h : s.line.state = .offline ∨ s.line.state = .listen) :
    s.lineBoundary c opening good foreign = s := by
  rcases h with h | h <;> simp only [State.lineBoundary, h]

theorem State.lineBoundary_coldstart (h : s.line.state = .coldstart) :
    s.lineBoundary c opening good foreign = if s.line.coldSent = 4 then s.becomeAlone opening else s := by
  simp only [State.lineBoundary, h]
  rfl

theorem State.lineBoundary_integrating (h : s.line.state = .integrating) :
    s.lineBoundary c opening good foreign =
      if s.line.integration = some c then (if good = 0#16 then s.enter .listen else s.enter .active) else s := by
  simp only [State.lineBoundary, h]
  rfl

theorem State.lineBoundary_yields {own : StationSet}
    (h : (s.line.state = .active ∧ own = good ||| stationBit s.timer.station) ∨ (s.line.state = .passive ∧ own = good))
    (hyields : yields own foreign = true) : s.lineBoundary c opening good foreign = s.yield := by
  rcases h with ⟨h, rfl⟩ | ⟨h, rfl⟩ <;> simp only [State.lineBoundary, h, hyields, if_true]

theorem State.lineBoundary_active (h : s.line.state = .active)
    (hyields : yields (good ||| stationBit s.timer.station) foreign = false) :
    s.lineBoundary c opening good foreign = s.exclusionCheck c := by
  simp only [State.lineBoundary, h, hyields, Bool.false_eq_true, if_false]

theorem State.lineBoundary_passive (h : s.line.state = .passive) (hyields : yields good foreign = false) :
    s.lineBoundary c opening good foreign = s.passiveHold opening := by
  simp only [State.lineBoundary, h, hyields, Bool.false_eq_true, if_false]

/-- The exclusion check by its outcomes (R52, R55, R71). -/
theorem State.exclusionCheck_heard (h : s.viewCount c false ≤ s.viewCount c true) :
    s.exclusionCheck c = s.setLine { s.line with excluded := 0 } :=
  if_neg (Nat.not_lt.mpr h)

theorem State.exclusionCheck_first (h : s.viewCount c true < s.viewCount c false) (hzero : s.line.excluded = 0) :
    s.exclusionCheck c = s.setLine { s.line with excluded := 1 } := by
  rw [State.exclusionCheck, if_pos h, if_pos (by rw [hzero]; decide), hzero]

theorem State.exclusionCheck_leaves (h : s.viewCount c true < s.viewCount c false) (hmore : 1 ≤ s.line.excluded)
    (hleave : s.line.leavePending = true) : s.exclusionCheck c = s.enter .offline := by
  have hlimit : Config.exclusionLimit = 2 := rfl
  rw [State.exclusionCheck, if_pos h, if_neg (by rw [hlimit]; omega), if_pos hleave]

theorem State.exclusionCheck_passive (h : s.viewCount c true < s.viewCount c false) (hmore : 1 ≤ s.line.excluded)
    (hleave : s.line.leavePending = false) :
    s.exclusionCheck c = (s.setLine { s.line with hold := 0 }).enter .passive := by
  have hlimit : Config.exclusionLimit = 2 := rfl
  rw [State.exclusionCheck, if_pos h, if_neg (by rw [hlimit]; omega), if_neg (by rw [hleave]; exact Bool.false_ne_true)]

theorem State.passiveHold_counts (h : s.line.hold < 7) :
    s.passiveHold opening = s.setLine { s.line with hold := s.line.hold + 1 } := by
  have hrounds : Config.passiveRounds = 8 := rfl
  rw [State.passiveHold, if_pos (by rw [hrounds]; omega)]

theorem State.passiveHold_integrates (h : 7 ≤ s.line.hold) :
    s.passiveHold opening =
      (s.enter .integrating).setLine { (s.enter .integrating).line with integration := some opening } := by
  have hrounds : Config.passiveRounds = 8 := rfl
  rw [State.passiveHold, if_neg (by rw [hrounds]; omega)]

end

/-- The line controller moves: its own record alone changes, or its state does, with what that brings. -/
def State.LineMoves (u v : State) : Prop :=
  (∃ l, l.state = u.line.state ∧ v = u.setLine l) ∨
    ∃ before behind p, before.state = u.line.state ∧ behind.state ≠ u.line.state ∧
      (u.line.state ≠ .coldstart → p = ((u.setLine before).enter behind.state).peers) ∧
      (u.line.state = .coldstart → behind.state = .active) ∧
      v = u.movedTo before behind (u.line.state.raises behind.state) p

theorem State.LineMoves.stays (u : State) : u.LineMoves u := .inl ⟨u.line, rfl, rfl⟩

theorem State.LineMoves.sets (u : State) {l : LineController} (h : l.state = u.line.state) : u.LineMoves (u.setLine l) :=
  .inl ⟨l, h, rfl⟩

/-- A change of state to a target outside COLDSTART, with the bits that it raises. -/
theorem State.LineMoves.moved {v : State} {before behind : LineController} {target : LineState} {bits : EventSet}
    {p : PeerTable} (hbefore : before.state = u.line.state) (htarget : behind.state = target) (hne : target ≠ u.line.state)
    (hp : u.line.state ≠ .coldstart → p = ((u.setLine before).enter target).peers)
    (hcold : u.line.state = .coldstart → target = .active) (hbits : u.line.state.raises target = bits)
    (hv : v = u.movedTo before behind bits p) : u.LineMoves v := by
  subst htarget hbits
  exact .inr ⟨before, behind, p, hbefore, hne, hp, hcold, hv⟩

/-- A change of state with nothing besides. -/
theorem State.LineMoves.enter (u : State) {target : LineState} (hne : target ≠ u.line.state) (hcold : u.line.state ≠ .coldstart)
    (hraises : u.line.state.raises target = 0#8) : u.LineMoves (u.enter target) :=
  .moved (before := u.line) rfl rfl hne (fun _ => rfl) (fun h => absurd h hcold) hraises (u.enter_movedTo_here target)

theorem State.LineMoves.yield (u : State) (h : u.line.state = .active ∨ u.line.state = .passive) : u.LineMoves u.yield := by
  cases hleave : u.line.leavePending with
  | true =>
    rw [u.yield_leave hleave]
    rcases h with h | h <;> exact .enter u (by rw [h]; decide) (by rw [h]; decide) (by rw [h]; decide)
  | false =>
    rcases h with h | h <;>
      exact .moved (before := u.line) (target := .listen) rfl rfl (by rw [h]; decide) (fun _ => rfl) (by rw [h]; decide)
        (by rw [h]; decide) (u.yield_listen hleave)

theorem State.LineMoves.exclusionCheck (u : State) (c : Round) (h : u.line.state = .active) :
    u.LineMoves (u.exclusionCheck c) := by
  by_cases hless : u.viewCount c true < u.viewCount c false
  · by_cases hzero : u.line.excluded = 0
    · rw [State.exclusionCheck_first hless hzero]
      exact .sets u rfl
    · have hmore : 1 ≤ u.line.excluded := by omega
      cases hleave : u.line.leavePending with
      | true =>
        rw [State.exclusionCheck_leaves hless hmore hleave]
        exact .enter u (by rw [h]; decide) (by rw [h]; decide) (by rw [h]; decide)
      | false =>
        rw [State.exclusionCheck_passive hless hmore hleave]
        exact .moved (before := { u.line with hold := 0 }) (target := .passive) rfl rfl (by rw [h]; decide) (fun _ => rfl)
          (by rw [h]; decide) (by rw [h]; decide) u.exclusion_movedTo
  · rw [State.exclusionCheck_heard (Nat.not_lt.mp hless)]
    exact .sets u rfl

theorem State.LineMoves.passiveHold (u : State) (opening : Round) (h : u.line.state = .passive) :
    u.LineMoves (u.passiveHold opening) := by
  by_cases hless : u.line.hold < 7
  · rw [State.passiveHold_counts hless]
    exact .sets u rfl
  · rw [State.passiveHold_integrates (Nat.not_lt.mp hless)]
    exact .moved (before := u.line) (target := .integrating) rfl rfl (by rw [h]; decide) (fun _ => rfl) (by rw [h]; decide)
      (by rw [h]; decide) (u.integrates_movedTo opening)

theorem State.LineMoves.becomeAlone (u : State) (opening : Round) (h : u.line.state = .coldstart) :
    u.LineMoves (u.becomeAlone opening) := by
  obtain ⟨p, hp⟩ := u.becomeAlone_movedTo opening
  exact .moved (before := u.line) (target := .active) rfl rfl (by rw [h]; decide) (fun hc => absurd h hc) (fun _ => rfl)
    (by rw [h]; decide) hp

/-- The line controller's reaction to a boundary (R47 to R55). -/
theorem State.lineBoundary_moves (u : State) (closing opening : Round) (good foreign : StationSet) :
    u.LineMoves (u.lineBoundary closing opening good foreign) := by
  cases h : u.line.state with
  | offline => rw [State.lineBoundary_idle (.inl h)]; exact .stays u
  | listen => rw [State.lineBoundary_idle (.inr h)]; exact .stays u
  | coldstart =>
    rw [State.lineBoundary_coldstart h]
    split
    · exact .becomeAlone u opening h
    · exact .stays u
  | integrating =>
    rw [State.lineBoundary_integrating h]
    split
    · split
      · exact .enter u (by rw [h]; decide) (by rw [h]; decide) (by rw [h]; decide)
      · exact .enter u (by rw [h]; decide) (by rw [h]; decide) (by rw [h]; decide)
    · exact .stays u
  | active =>
    cases hyields : yields (good ||| stationBit u.timer.station) foreign with
    | true => rw [State.lineBoundary_yields (.inl ⟨h, rfl⟩) hyields]; exact .yield u (.inl h)
    | false => rw [State.lineBoundary_active h hyields]; exact .exclusionCheck u closing h
  | passive =>
    cases hyields : yields good foreign with
    | true => rw [State.lineBoundary_yields (.inr ⟨h, rfl⟩) hyields]; exact .yield u (.inr h)
    | false => rw [State.lineBoundary_passive h hyields]; exact .passiveHold u opening h

/-! ### The parts of a change of state -/

/-- Events latched, and in the re-raised set of an open report (R172, R174). -/
theorem Latches.add_events (l : Latches) (e : EventSet) :
    l.add e 0#16 0#16 =
      { l with
        latched := l.latched ||| e
        report := l.report.map fun r => { r with againEvents := r.againEvents ||| e } } := by
  cases l with
  | mk latched joined lost report => cases report <;> simp [Latches.add]

theorem Latches.add_add (l : Latches) (e e' : EventSet) : (l.add e 0#16 0#16).add e' 0#16 0#16 = l.add (e ||| e') 0#16 0#16 := by
  cases l with
  | mk latched joined lost report => cases report <;> simp [Latches.add, BitVec.or_assoc]

theorem State.movedTo_latches (u : State) (before behind : LineController) (bits : EventSet) (p : PeerTable) :
    (u.movedTo before behind bits p).latches = u.latches.add (0x80#8 ||| bits) 0#16 0#16 := by
  have henter : ((u.setLine before).enter behind.state).latches = u.latches.add 0x80#8 0#16 0#16 :=
    (u.setLine before).enter_latches behind.state
  rw [State.movedTo, henter, Latches.add_add]

/-- On entry to LISTEN or OFFLINE the pending entries' pairs go, and every channel's pin follows (R58, R90, R164). -/
theorem State.movedTo_channel_idle (u : State) (before behind : LineController) (bits : EventSet) (p : PeerTable)
    (ht : behind.state = .listen ∨ behind.state = .offline) (k : ChannelIndex) :
    (u.movedTo before behind bits p).channel k =
      ((u.channel k).shed fun i => (u.entry i).pending).settle (decide (behind.state = .active)) :=
  (u.setLine before).enter_channel_shed ht k

theorem State.movedTo_channel (u : State) (before behind : LineController) (bits : EventSet) (p : PeerTable)
    (ht : behind.state ≠ .listen ∧ behind.state ≠ .offline) (k : ChannelIndex) :
    (u.movedTo before behind bits p).channel k = (u.channel k).settle (decide (behind.state = .active)) :=
  (u.setLine before).enter_channel behind.state ht k

/-- A move to another state than LISTEN and OFFLINE leaves frame layer and table alone. -/
theorem State.movedTo_keeps (u : State) (before behind : LineController) (bits : EventSet) (p : PeerTable)
    (ht : behind.state ≠ .listen ∧ behind.state ≠ .offline) :
    (u.movedTo before behind bits p).frames = u.frames ∧ (u.movedTo before behind bits p).entries = u.entries ∧
      (u.movedTo before behind bits p).completions = u.completions ∧
      ((u.setLine before).enter behind.state).peers = u.peers := by
  have hkeeps : Keeps turning (u.setLine before) ((u.setLine before).enter behind.state) := by
    rw [State.enter_other _ ht.1 ht.2]
    exact State.turned_keeps _ _
  exact ⟨hkeeps .frames (by decide), hkeeps .entries (by decide), hkeeps .completions (by decide), hkeeps .peers (by decide)⟩

theorem State.movedTo_frames_idle (u : State) (before behind : LineController) (bits : EventSet) (p : PeerTable)
    (ht : behind.state = .listen ∨ behind.state = .offline) :
    (u.movedTo before behind bits p).frames =
      { u.frames.shed (fun i => (u.entry i).pending) with good := 0#16, foreign := 0#16, mark := false, view := 0#16 } :=
  (u.setLine before).enter_frames_shed ht

theorem State.movedTo_completions_idle (u : State) (before behind : LineController) (bits : EventSet) (p : PeerTable)
    (ht : behind.state = .listen ∨ behind.state = .offline) :
    (u.movedTo before behind bits p).completions = u.completions ++ allSixteen.filter fun i => (u.entry i).pending :=
  (u.setLine before).enter_completions_idle ht

theorem State.movedTo_entry_idle (u : State) (before behind : LineController) (bits : EventSet) (p : PeerTable)
    (ht : behind.state = .listen ∨ behind.state = .offline) (i : EntryIndex) :
    (u.movedTo before behind bits p).entry i =
      if (u.entry i).pending = true then
        { u.entry i with
          state := .done, outcome := some .abandoned
          reason := some (if behind.state = .listen then .resync else .left) }
      else u.entry i :=
  (u.setLine before).enter_entry_idle ht i

/-- What a channel keeps through a change of state: all but the pairs of the entries that close, the forced state and the
pin. -/
theorem State.movedTo_channel_frame (u : State) (before behind : LineController) (bits : EventSet) (p : PeerTable)
    (k : ChannelIndex) :
    ((u.movedTo before behind bits p).channel k).PinFits (decide (behind.state = .active)) ∧
      (u.movedTo before behind bits p).channel k =
        { u.channel k with
          staged := (u.channel k).staged.filter fun q =>
            decide ((u.entry q.tag).pending = false ∨ ((u.movedTo before behind bits p).entry q.tag).pending = true)
          forced := ((u.movedTo before behind bits p).channel k).forced
          pin := ((u.movedTo before behind bits p).channel k).pin } := by
  by_cases ht : behind.state = .listen ∨ behind.state = .offline
  · have hclosed (i : EntryIndex) :
        ((u.entry i).pending = false ∨ ((u.movedTo before behind bits p).entry i).pending = true) ↔
          (u.entry i).pending = false := by
      rw [State.movedTo_entry_idle u before behind bits p ht]
      by_cases h : (u.entry i).pending = true
      · rw [if_pos h]
        exact ⟨fun hc => hc.elim id fun hdone => absurd hdone Bool.false_ne_true, .inl⟩
      · simp [h]
    rw [State.movedTo_channel_idle u before behind bits p ht]
    refine ⟨Channel.settle_pinFits _ _, ?_⟩
    simp only [hclosed, Bool.decide_eq_false]
    rfl
  · rw [not_or] at ht
    have hentry (i : EntryIndex) : (u.movedTo before behind bits p).entry i = u.entry i :=
      State.entry_congr (u.movedTo_keeps before behind bits p ht).2.1 i
    have hall (i : EntryIndex) : (u.entry i).pending = false ∨ (u.entry i).pending = true := by
      cases (u.entry i).pending <;> simp
    rw [State.movedTo_channel u before behind bits p ht]
    refine ⟨Channel.settle_pinFits _ _, ?_⟩
    simp only [hentry, hall, decide_true, filter_true_eq]
    rfl


/-- The line controller's state stays: its own record alone has changed. -/
theorem State.LineMoves.of_same {v : State} (h : u.LineMoves v) (hsame : v.line.state = u.line.state) :
    v = { u with line := v.line } := by
  rcases h with ⟨l, _, rfl⟩ | ⟨before, behind, p, _, hne, _, _, rfl⟩
  · rfl
  · exact absurd hsame hne

/-- Its state changes. -/
theorem State.LineMoves.of_ne {v : State} (h : u.LineMoves v) (hne : v.line.state ≠ u.line.state) :
    ∃ before p, (u.line.state ≠ .coldstart → p = ((u.setLine before).enter v.line.state).peers) ∧
      (u.line.state = .coldstart → v.line.state = .active) ∧
      v = u.movedTo before v.line (u.line.state.raises v.line.state) p := by
  rcases h with ⟨l, hsame, rfl⟩ | ⟨before, behind, p, _, _, hp, hcold, rfl⟩
  · exact absurd hsame hne
  · exact ⟨before, p, hp, hcold, rfl⟩

/-- The line controller's reaction to a boundary, beside its own record (R56 to R59, R98, R99, R164). -/
theorem State.lineBoundary_alters {v : State} (closing opening : Round) (good foreign : StationSet)
    (hv : v = u.lineBoundary closing opening good foreign) (hne : v.line.state ≠ u.line.state) :
    v.latches = u.latches.add (0x80#8 ||| u.line.state.raises v.line.state) 0#16 0#16 ∧
      (∀ k, (v.channel k).PinFits v.isActive ∧
        v.channel k =
          { u.channel k with
            staged := (u.channel k).staged.filter fun q =>
              decide ((u.entry q.tag).pending = false ∨ (v.entry q.tag).pending = true)
            forced := (v.channel k).forced, pin := (v.channel k).pin }) ∧
      (v.line.state ≠ .listen → v.line.state ≠ .offline →
        v.frames = u.frames ∧ v.entries = u.entries ∧ v.completions = u.completions ∧
        (u.line.state ≠ .coldstart → v.peers = u.peers)) ∧
      (v.line.state = .listen ∨ v.line.state = .offline →
        v.frames =
          { u.frames.shed (fun i => (u.entry i).pending) with
            good := 0#16, foreign := 0#16, mark := false, view := 0#16 } ∧
        v.peers = PeerTable.cleared ∧
        v.completions = u.completions ++ allSixteen.filter (fun i => (u.entry i).pending) ∧
        ∀ i, v.entry i =
          if (u.entry i).pending = true then
            { u.entry i with
              state := .done, outcome := some .abandoned
              reason := some (if v.line.state = .listen then .resync else .left) }
          else u.entry i) := by
  obtain ⟨before, p, hp, hcold, hmoved⟩ := (hv ▸ u.lineBoundary_moves closing opening good foreign : u.LineMoves v).of_ne hne
  generalize v.line = behind at *
  subst hmoved
  refine ⟨State.movedTo_latches .., State.movedTo_channel_frame u before behind _ p, fun hlisten hoffline => ?_,
    fun hidle => ⟨State.movedTo_frames_idle u before behind _ p hidle, ?_,
      State.movedTo_completions_idle u before behind _ p hidle, State.movedTo_entry_idle u before behind _ p hidle⟩⟩
  · obtain ⟨hframes, hentries, hqueue, hpeers⟩ :=
      u.movedTo_keeps before behind (u.line.state.raises behind.state) p ⟨hlisten, hoffline⟩
    exact ⟨hframes, hentries, hqueue, fun hother => (hp hother).trans hpeers⟩
  · have hpeers : (u.movedTo before behind (u.line.state.raises behind.state) p).peers = p := rfl
    rw [hpeers, hp fun hstart => by rcases hidle with h | h <;> rw [hcold hstart] at h <;> cases h]
    exact (u.setLine before).enter_peers_idle hidle

end Sys2Proof.Machine
end

section
/-!
PROOFS about the reactions at a round boundary: what those of the other blocks leave to the line controller, and its own turn
in a row of reactions (R6, R47 to R59).
-/

namespace Sys2Proof.Machine

-- One lemma after another: side by side, the evaluations of `decide` would each hold a thread.
set_option Elab.async false

variable {s t u : State}

/-! ### The peer table's reaction by its two outcomes -/

/-- Events that the peer table raises leave those of the line controller as they stand (R70). -/
theorem State.raisePeers_other (s : State) (joined lost : StationSet) {n : Nat} (hn : n = 3 ∨ n = 4 ∨ n = 7) :
    (s.raisePeers joined lost).latches.latched.getLsbD n = s.latches.latched.getLsbD n := by
  have hlatched : (s.raisePeers joined lost).latches.latched = s.latches.latched |||
      ((if joined = 0#16 then 0#8 else Event.peerJoined.bit) ||| (if lost = 0#16 then 0#8 else Event.peerLost.bit)) := rfl
  have hjoined : (if joined = 0#16 then 0#8 else Event.peerJoined.bit).getLsbD n = false := by
    rcases hn with rfl | rfl | rfl <;> split <;> rfl
  have hlost : (if lost = 0#16 then 0#8 else Event.peerLost.bit).getLsbD n = false := by
    rcases hn with rfl | rfl | rfl <;> split <;> rfl
  rw [hlatched, BitVec.getLsbD_or, BitVec.getLsbD_or, hjoined, hlost, Bool.or_false, Bool.or_false]

/-- The peer table leaves the round alone, or closes it: the losses' notice, the records and what is raised (R66 to R70). -/
theorem State.peersBoundary_cases (s : State) (c : Round) :
    s.peersBoundary c = s ∨
      ∃ joined lost p, s.peersBoundary c =
          { s.lossNotice lost with peers := p, latches := (s.raisePeers joined lost).latches } := by
  cases htracking : s.peers.tracking with
  | false => exact .inl (if_neg (by rw [htracking]; exact Bool.false_ne_true))
  | true =>
    by_cases hstart : s.peers.startRound = none ∨ s.peers.startRound = some c
    · exact .inr ⟨_, _, _, State.peersBoundary_eq htracking hstart rfl rfl⟩
    · rw [not_or] at hstart
      obtain ⟨r, hr⟩ := Option.ne_none_iff_exists'.mp hstart.1
      exact .inl (State.peersBoundary_ahead htracking hr fun h => hstart.2 (h ▸ hr))

/-! ### What the line controller sees of the other reactions -/

/-- Of the frame layer nothing but the announce queue and the assembled frame differs. -/
def State.QueuesOnly (s t : State) : Prop :=
  t.frames = { s.frames with announce := t.frames.announce, assembled := t.frames.assembled }

namespace State.QueuesOnly

theorem of_frames (h : t.frames = s.frames) : s.QueuesOnly t := by
  rw [State.QueuesOnly, h]

theorem refl (s : State) : s.QueuesOnly s := .of_frames rfl

theorem trans (h : s.QueuesOnly t) (h' : t.QueuesOnly u) : s.QueuesOnly u := by
  unfold State.QueuesOnly at *
  rw [h', h]

theorem foldl {α : Type} {f : State → α → State} (hf : ∀ s a, State.QueuesOnly s (f s a)) (l : List α) (s : State) :
    s.QueuesOnly (l.foldl f s) := by
  induction l generalizing s with
  | nil => exact .refl s
  | cons a l ih => exact (hf s a).trans (ih (f s a))

theorem ite {p : Prop} [Decidable p] (ht : s.QueuesOnly t) (hu : s.QueuesOnly u) : s.QueuesOnly (if p then t else u) := by
  split
  · exact ht
  · exact hu

theorem endPeriod (s : State) (k : ChannelIndex) : s.QueuesOnly (s.endPeriod k) := by
  unfold State.endPeriod
  refine .ite ?_ (.refl s)
  rw [State.deliverPeriodEnd_eq]
  have hpass := (State.foldl_letArrive (Entry.countPeriod k (s.setChannel k (s.channel k).periodEnded).timer.station) allSixteen
    allSixteen_nodup (s.setChannel k (s.channel k).periodEnded)).2
  rw [State.QueuesOnly, hpass]
  rfl

theorem advanceChannel (s : State) (k : ChannelIndex) : s.QueuesOnly (s.advanceChannel k) := by
  unfold State.advanceChannel
  split
  · exact .of_frames rfl
  · next change _ =>
    cases change with
    | phaseWaitEnd => exact .ite (.of_frames rfl) (.refl s)
    | highToLow => exact .ite (.of_frames rfl) (.refl s)
    | periodEnd => exact .endPeriod s k

/-- A negative correction brings local arrivals and nothing else to the frame layer (R154). -/
theorem applyCorrection (s : State) (order : List ChannelIndex) : s.QueuesOnly (s.applyCorrection order) := by
  unfold State.applyCorrection
  split
  · exact .refl s
  · next d _ =>
    have hskip : s.QueuesOnly (if d < 0 then s.skipBeats order d.natAbs else s) :=
      .ite ((foldl (fun s k => .ite (.advanceChannel s k) (.refl s)) order s).trans
        (foldl (fun s _ => .foldl .advanceChannel order s) _ _)) (.refl s)
    exact hskip.trans (.of_frames rfl)

theorem appendClosed {firing : List EntryIndex} (h : TableWork firing s t) : s.QueuesOnly (State.appendClosed s t) := h.frames

theorem lossNotice (s : State) (lost : StationSet) : s.QueuesOnly (s.lossNotice lost) :=
  .appendClosed (firing := []) (.closeEach (fun s i => (s.entry i).state = .armed ∧ (s.entry i).lacks lost = true) _ _
    (fun _ _ h => by simp [h.1]) s _)

theorem peersBoundary (s : State) (c : Round) : s.QueuesOnly (s.peersBoundary c) := by
  rcases s.peersBoundary_cases c with h | ⟨joined, lost, p, h⟩
  · rw [h]; exact .refl s
  · have hnotice := State.QueuesOnly.lossNotice s lost
    generalize s.lossNotice lost = v at h hnotice
    rw [h]
    exact hnotice

theorem tableBoundary (s : State) (opening : Round) : s.QueuesOnly (s.tableBoundary opening) := by
  have hexpired : ∀ l, TableWork l s (s.expireDue opening) := fun l => .expireDue s opening
  exact .appendClosed ((hexpired ((s.expireDue opening).firingSet opening)).trans
    (.fire _ opening fun i hi => by simp [State.firingSet_complete hi]))

theorem openTable (s : State) (opening : Round) : s.QueuesOnly (s.openTable opening) := by
  have htable := tableBoundary (s.setTimer { s.timer with round := opening }) opening
  unfold State.openTable
  generalize (s.setTimer { s.timer with round := opening }).tableBoundary opening = u at htable
  exact htable

theorem assemble (s : State) : s.QueuesOnly s.assemble := by
  by_cases h : s.line.state.transmits = true
  · rw [State.assemble_sends h]
    generalize s.ownFrame = f
    rfl
  · rw [State.assemble_silent h]
    exact .refl s

theorem takeOwnOpening (s : State) : s.QueuesOnly s.takeOwnOpening :=
  .ite ((of_frames rfl).trans (.assemble (s.setTimer { s.timer with ownOpening := false }))) (.refl s)

end State.QueuesOnly

/-- The blocks that the table's reaction touches (R3, R93, log entries 4 and 33). -/
theorem openTable_touches (s : State) (opening : Round) :
    Keeps (.timer :: .port :: .completions :: firing) s (s.openTable opening) :=
  (((setTimer_keeps s _).mono (.timer :: .port :: .completions :: firing)).trans
    ((tableBoundary_keeps _ opening).mono (.timer :: .port :: .completions :: firing))).trans
    ((noteClosed_keeps s _).mono (.timer :: .port :: .completions :: firing))

/-- Another block has reacted: the line controller's record, the events that it raises, and what it evaluates of the
boundary stand; the view of a station that listens or is OFFLINE stays empty. -/
structure State.LineUnmoved (s t : State) : Prop where
  line : t.line = s.line
  settings : t.settings = s.settings
  station : t.timer.station = s.timer.station
  bits : ∀ n, n = 3 ∨ n = 4 ∨ n = 7 → t.latches.latched.getLsbD n = s.latches.latched.getLsbD n
  view : s.line.state = .offline ∨ s.line.state = .listen → s.frames.view = 0#16 → t.frames.view = 0#16
  boundary : ∀ b, s.timer.boundary = some b → ∃ b', t.timer.boundary = some b' ∧ b'.opening = b.opening ∧
    b'.records = b.records ∧ (.line ∈ b'.due ↔ .line ∈ b.due)

namespace State.LineUnmoved

theorem refl (s : State) : s.LineUnmoved s :=
  ⟨rfl, rfl, rfl, fun _ _ => rfl, fun _ h => h, fun b hb => ⟨b, hb, rfl, rfl, Iff.rfl⟩⟩

theorem trans (h : s.LineUnmoved t) (h' : t.LineUnmoved u) : s.LineUnmoved u := by
  refine ⟨h'.line.trans h.line, h'.settings.trans h.settings, h'.station.trans h.station,
    fun n hn => (h'.bits n hn).trans (h.bits n hn), fun hidle hview => h'.view (by rw [h.line]; exact hidle) (h.view hidle hview),
    fun b hb => ?_⟩
  obtain ⟨b', hb', hopening, hrecords, hdue⟩ := h.boundary b hb
  obtain ⟨b'', hb'', hopening', hrecords', hdue'⟩ := h'.boundary b' hb'
  exact ⟨b'', hb'', hopening'.trans hopening, hrecords'.trans hrecords, hdue'.trans hdue⟩

/-- A reaction that touches neither the line controller nor the latches, and leaves the boundary as it is. -/
theorem of_keeps {l : List Block} (h : Keeps l s t) (hqueues : s.QueuesOnly t) (hboundary : t.timer.boundary = s.timer.boundary)
    (hstation : t.timer.station = s.timer.station) (hl : .line ∉ l := by decide) (hs : .settings ∉ l := by decide)
    (hlatches : .latches ∉ l := by decide) : s.LineUnmoved t := by
  refine ⟨h .line hl, h .settings hs, hstation, fun n _ => by rw [h .latches hlatches], fun _ hview => ?_,
    fun b hb => ⟨b, hboundary.trans hb, rfl, rfl, Iff.rfl⟩⟩
  rw [hqueues]
  exact hview

/-- Another reaction is crossed off. -/
theorem crossOff {b : Boundary} (hb : s.timer.boundary = some b) {x : BoundaryReaction} (hx : x ≠ .line) :
    s.LineUnmoved (s.setTimer { s.timer with boundary := some (b.without x) }) := by
  refine ⟨rfl, rfl, rfl, fun _ _ => rfl, fun _ h => h, fun c hc => ⟨b.without x, rfl, ?_⟩⟩
  rw [hb, Option.some.injEq] at hc
  subst hc
  exact ⟨rfl, rfl, by simp [Boundary.without, hx.symm]⟩

theorem formView (s : State) (r : RoundRecords) : s.LineUnmoved (s.formView r) := by
  refine ⟨rfl, rfl, rfl, fun _ _ => rfl, fun hidle _ => ?_, fun b hb => ⟨b, hb, rfl, rfl, Iff.rfl⟩⟩
  exact if_pos hidle

theorem peersBoundary (s : State) (c : Round) : s.LineUnmoved (s.peersBoundary c) := by
  have hkeeps := peersBoundary_keeps s c
  have htimer := hkeeps .timer (by decide)
  refine ⟨hkeeps .line (by decide), hkeeps .settings (by decide), by rw [htimer], fun n hn => ?_, fun _ hview => ?_,
    fun b hb => ⟨b, by rw [htimer, hb], rfl, rfl, Iff.rfl⟩⟩
  · rcases s.peersBoundary_cases c with h | ⟨joined, lost, p, h⟩
    · rw [h]
    · rw [h]
      exact s.raisePeers_other joined lost hn
  · rw [State.QueuesOnly.peersBoundary s c]
    exact hview

theorem openTable (s : State) (opening : Round) : s.LineUnmoved (s.openTable opening) := by
  have hkeeps := openTable_touches s opening
  have htimer := s.openTable_timer opening
  exact .of_keeps hkeeps (.openTable s opening) (by rw [htimer]) (by rw [htimer])

theorem takeOwnOpening (s : State) : s.LineUnmoved s.takeOwnOpening := by
  have htimer : s.takeOwnOpening.timer.boundary = s.timer.boundary ∧ s.takeOwnOpening.timer.station = s.timer.station := by
    cases hown : s.timer.ownOpening with
    | false => rw [State.takeOwnOpening_taken s hown]; exact ⟨rfl, rfl⟩
    | true => rw [State.takeOwnOpening, if_pos hown, State.assemble_timer]; exact ⟨rfl, rfl⟩
  exact .of_keeps (takeOwnOpening_keeps s) (.takeOwnOpening s) htimer.1 htimer.2

/-- A reaction other than the line controller's, and the line controller's where it is not due. -/
theorem react {b : Boundary} (hb : s.timer.boundary = some b) {x : BoundaryReaction} (hx : x = .line → .line ∉ b.due) :
    s.LineUnmoved (s.react x) := by
  by_cases hassembly : x = .assembly
  · subst hassembly
    rw [State.react_assembly]
    split
    · exact .takeOwnOpening s
    · exact .refl s
  · by_cases hdue : x ∈ b.due
    · have hline : x ≠ .line := fun h => hx h (h ▸ hdue)
      rw [State.react_due s x b hassembly hb hdue]
      refine (crossOff hb hline).trans ?_
      cases x with
      | view => exact .formView _ _
      | peers => exact .peersBoundary _ _
      | line => exact absurd rfl hline
      | table => exact .openTable _ _
      | assembly => exact .refl _
    · rw [State.react_taken s x hassembly fun c hc => by rw [hb] at hc; cases hc; exact hdue]
      exact .refl s

theorem foldl_react (order : List BoundaryReaction) {b : Boundary} (hb : s.timer.boundary = some b)
    (horder : .line ∈ order → .line ∉ b.due) : s.LineUnmoved (order.foldl State.react s) := by
  induction order generalizing s b with
  | nil => exact .refl s
  | cons x order ih =>
    have hfirst : s.LineUnmoved (s.react x) := .react hb fun h => horder (by rw [h]; exact List.mem_cons_self)
    obtain ⟨b', hb', _, _, hdue⟩ := hfirst.boundary b hb
    exact hfirst.trans (ih hb' fun h => by rw [hdue]; exact horder (List.mem_cons_of_mem x h))

end State.LineUnmoved


/-! ### The peers that the line controller counts -/

/-- Two states with the same peer table, settings and station number. -/
structure State.SamePeers (s t : State) : Prop where
  peers : t.peers = s.peers
  settings : t.settings = s.settings
  station : t.timer.station = s.timer.station

theorem State.SamePeers.peer (h : s.SamePeers t) (k : Station) : t.peer k = s.peer k := by
  rw [State.peer, h.peers, State.peer]

theorem State.SamePeers.peerInUse (h : s.SamePeers t) (k : Station) : t.peerInUse k = s.peerInUse k := by
  rw [State.peerInUse, h.settings, h.station, State.peerInUse]

theorem State.SamePeers.closePeer (h : s.SamePeers t) (c : Round) (k : Station) :
    (s.closePeer c k).SamePeers (t.closePeer c k) := by
  unfold State.closePeer
  rw [h.peerInUse, h.peer, h.settings]
  split
  · exact ⟨by simp only [State.setPeer, State.setPeers_peers, h.peers], h.settings, h.station⟩
  · exact h

theorem State.SamePeers.foldl_closePeer (h : s.SamePeers t) (c : Round) (l : List Station) :
    (l.foldl (State.closePeer c) s).SamePeers (l.foldl (State.closePeer c) t) := by
  induction l generalizing s t with
  | nil => exact h
  | cons k l ih =>
    rw [List.foldl_cons, List.foldl_cons]
    exact ih (h.closePeer c k)

theorem State.peersBoundary_peers {c : Round} (htracking : s.peers.tracking = true)
    (hstart : s.peers.startRound = none ∨ s.peers.startRound = some c) :
    (s.peersBoundary c).peers = ((s.setPeers { s.peers with startRound := none }).closedPeers c).peers := by
  have heq := State.peersBoundary_eq htracking hstart rfl rfl
  generalize (s.setPeers { s.peers with startRound := none }).closedPeers c = w at heq ⊢
  rw [heq]

/-- What becomes of the records looks at nothing else (R66). -/
theorem State.SamePeers.peersBoundary (h : s.SamePeers t) (c : Round) : (t.peersBoundary c).peers = (s.peersBoundary c).peers := by
  cases htracking : s.peers.tracking with
  | false =>
    have hidle (w : State) (hw : w.peers.tracking = false) : w.peersBoundary c = w :=
      if_neg (by rw [hw]; exact Bool.false_ne_true)
    rw [hidle s htracking, hidle t (by rw [h.peers, htracking]), h.peers]
  | true =>
    have htracking' : t.peers.tracking = true := by rw [h.peers, htracking]
    by_cases hstart : s.peers.startRound = none ∨ s.peers.startRound = some c
    · rw [State.peersBoundary_peers htracking hstart, State.peersBoundary_peers htracking' (by rw [h.peers]; exact hstart)]
      have hset : (s.setPeers { s.peers with startRound := none }).SamePeers (t.setPeers { t.peers with startRound := none }) :=
        ⟨by rw [h.peers]; rfl, h.settings, h.station⟩
      rw [State.closedPeers, State.closedPeers]
      exact (hset.foldl_closePeer c allSixteen).peers
    · rw [not_or] at hstart
      obtain ⟨r, hr⟩ := Option.ne_none_iff_exists'.mp hstart.1
      have hne : r ≠ c := fun heq => hstart.2 (heq ▸ hr)
      rw [State.peersBoundary_ahead htracking hr hne, State.peersBoundary_ahead htracking' (by rw [h.peers]; exact hr) hne,
        h.peers]

theorem State.viewCount_eq (s : State) (c : Round) (names : Bool) :
    s.viewCount c names = (allSixteen.filter fun k => decide (s.ViewNames c names k)).length := by
  unfold State.viewCount
  refine congrArg List.length (List.filter_congr fun k _ => ?_)
  rw [Bool.eq_iff_iff, decide_eq_true_iff]
  simp only [Bool.and_eq_true, State.peerInUse_iff, decide_eq_true_eq, and_assoc]
  refine and_congr_right fun _ => and_congr_right fun _ => and_congr_right fun _ => and_congr_right fun _ => ?_
  cases (s.peer k).lastView <;> simp

theorem State.SamePeers.viewCount (h : s.SamePeers t) (c : Round) (names : Bool) : t.viewCount c names = s.viewCount c names := by
  simp only [State.viewCount_eq, State.ViewNames, h.peer, h.settings, h.station]

/-- One reaction other than the line controller's leaves the peers as they are, or is the peer table's. -/
theorem State.react_peers {b : Boundary} (hb : s.timer.boundary = some b) {x : BoundaryReaction} (hx : x ≠ .line) :
    (s.react x).peers =
      if x = .peers ∧ .peers ∈ b.due then (s.peersBoundary (b.opening - 1#16)).peers else s.peers := by
  by_cases hassembly : x = .assembly
  · subst hassembly
    rw [State.react_assembly]
    split
    · exact takeOwnOpening_keeps s .peers (by decide)
    · rfl
  · by_cases hdue : x ∈ b.due
    · rw [State.react_due s x b hassembly hb hdue]
      cases x with
      | view => rfl
      | peers =>
        rw [if_pos ⟨rfl, hdue⟩]
        have hsame : s.SamePeers (s.setTimer { s.timer with boundary := some (b.without .peers) }) := ⟨rfl, rfl, rfl⟩
        exact hsame.peersBoundary (b.opening - 1#16)
      | line => exact absurd rfl hx
      | table =>
        exact openTable_touches (s.setTimer { s.timer with boundary := some (b.without .table) }) b.opening .peers (by decide)
      | assembly => rfl
    · rw [State.react_taken s x hassembly fun c hc => by rw [hb] at hc; cases hc; exact hdue, if_neg]
      rintro ⟨rfl, h⟩
      exact hdue h

theorem State.foldl_react_peers (order : List BoundaryReaction) {b : Boundary} (hb : s.timer.boundary = some b)
    (horder : .line ∉ order) :
    (order.foldl State.react s).peers =
      if .peers ∈ order ∧ .peers ∈ b.due then (s.peersBoundary (b.opening - 1#16)).peers else s.peers := by
  induction order generalizing s b with
  | nil => simp
  | cons x order ih =>
    rw [List.mem_cons, not_or] at horder
    have hx : x ≠ .line := fun h => horder.1 h.symm
    have hfirst := State.react_peers hb hx
    have hunmoved : s.LineUnmoved (s.react x) := .react hb fun h => absurd h hx
    obtain ⟨b', hb', hopening, hdue⟩ : ∃ b', (s.react x).timer.boundary = some b' ∧ b'.opening = b.opening ∧
        (.peers ∈ b'.due ↔ .peers ∈ b.due ∧ x ≠ .peers) := by
      by_cases hassembly : x = .assembly
      · refine ⟨b, ?_, rfl, by simp [hassembly]⟩
        rw [hassembly, State.react_assembly_timer]
        exact hb
      · refine ⟨b.without x, ?_, rfl, by simp [Boundary.without, ne_comm]⟩
        rw [State.react_timer hb hassembly]
    rw [List.foldl_cons, ih hb' horder.2, hopening]
    by_cases hpeers : x = .peers ∧ .peers ∈ b.due
    · rw [if_neg fun h => (hdue.mp h.2).2 hpeers.1, hfirst, if_pos hpeers, if_pos ⟨by rw [hpeers.1]; exact List.mem_cons_self, hpeers.2⟩]
    · rw [if_neg hpeers] at hfirst
      have hsame : s.SamePeers (s.react x) := ⟨hfirst, hunmoved.settings, hunmoved.station⟩
      have hnamed : (.peers ∈ order ∧ .peers ∈ b'.due) ↔ .peers ∈ x :: order ∧ .peers ∈ b.due := by
        rw [hdue, List.mem_cons]
        constructor
        · exact fun ⟨hmem, hdue, _⟩ => ⟨.inr hmem, hdue⟩
        · rintro ⟨hmem, hdue⟩
          have hne : ¬.peers = x := fun heq => hpeers ⟨heq.symm, hdue⟩
          exact ⟨hmem.resolve_left hne, hdue, fun heq => hne heq.symm⟩
      rw [hsame.peersBoundary, hfirst]
      exact ite_congr (propext hnamed) (fun _ => rfl) fun _ => rfl


/-! ### The boundary that a ROUND_BOUNDARY takes -/

/-- It is the boundary of this instant, or the one that the command says has come, with the closing round's records handed
over (R6, R23, log entries 2 to 4). -/
theorem State.beginBoundary_meets {opening : Round} {r : RoundRecords} {due : List BoundaryReaction}
    (h : s.Meets opening r due) :
    s.beginBoundary.timer.boundary = some { opening := opening, due := due, records := some r } := by
  rcases h with ⟨hnone, rfl, rfl, rfl⟩ | ⟨b, hb, hdue, rfl, rfl, rfl⟩
  · have hframes := State.QueuesOnly.applyCorrection s allChannels
    have hrecords : s.reachRound.records = { good := s.frames.good, foreign := s.frames.foreign, mark := s.frames.mark } := by
      have hkept : s.reachRound.records = (s.applyCorrection allChannels).records := rfl
      rw [hkept, State.records, hframes]
    rw [State.beginBoundary_reached_timer hnone, hrecords]
    rfl
  · cases hr : b.records with
    | none =>
      rw [State.beginBoundary_due hb hdue hr]
      rfl
    | some r =>
      rw [State.beginBoundary_handed hb hdue hr]
      cases b
      cases hr
      exact hb

/-- A ROUND_BOUNDARY begins: the command has brought the instant about, or finds it; the records are handed over once. -/
theorem State.beginBoundary_cases (s : State) :
    (∃ b, s.timer.dueBoundary = none ∧ s.beginBoundary = s.reachRound.handOver b) ∨
      (∃ b, s.timer.boundary = some b ∧ b.due ≠ [] ∧ b.records = none ∧ s.beginBoundary = s.handOver b) ∨
      ∃ b r, s.timer.boundary = some b ∧ b.due ≠ [] ∧ b.records = some r ∧ s.beginBoundary = s := by
  cases hb : s.timer.boundary with
  | none =>
    have hnone := RoundTimer.dueBoundary_of_none hb
    exact .inl ⟨_, hnone, State.beginBoundary_reached hnone⟩
  | some b =>
    by_cases hdue : b.due = []
    · have hnone : s.timer.dueBoundary = none := by rw [RoundTimer.dueBoundary_of_some hb, if_pos hdue]
      exact .inl ⟨_, hnone, State.beginBoundary_reached hnone⟩
    · cases hr : b.records with
      | none => exact .inr (.inl ⟨b, rfl, hdue, hr, State.beginBoundary_due hb hdue hr⟩)
      | some r => exact .inr (.inr ⟨b, r, rfl, hdue, hr, State.beginBoundary_handed hb hdue hr⟩)

theorem State.reachRound_queues (s : State) : s.QueuesOnly s.reachRound :=
  (State.QueuesOnly.applyCorrection s allChannels).trans (.of_frames rfl)

/-- Of the frame layer it leaves all but the records, which start empty where they are handed over, and the queues. -/
theorem State.beginBoundary_frames (s : State) :
    s.beginBoundary.frames.view = s.frames.view ∧ s.beginBoundary.frames.transmitting = s.frames.transmitting := by
  have hreach := s.reachRound_queues
  rcases s.beginBoundary_cases with ⟨b, _, h⟩ | ⟨b, _, _, _, h⟩ | ⟨b, r, _, _, _, h⟩
  · rw [h, State.handOver, State.setFrames_frames, hreach]
    exact ⟨rfl, rfl⟩
  · rw [h]
    exact ⟨rfl, rfl⟩
  · rw [h]
    exact ⟨rfl, rfl⟩

theorem State.beginBoundary_station (s : State) : s.beginBoundary.timer.station = s.timer.station := by
  rcases s.beginBoundary_cases with ⟨b, _, h⟩ | ⟨b, _, _, _, h⟩ | ⟨b, r, _, _, _, h⟩
  · rw [h, State.handOver, State.setFrames_timer, State.setTimer_timer, State.reachRound_timer]
    rfl
  · rw [h]
    rfl
  · rw [h]

/-! ### The line controller's turn in a row of reactions -/

/-- From `s` other blocks have reacted up to `w`, then the line controller, and then others again up to `t`. -/
structure State.LineTurn (s w t : State) (opening : Round) (r : RoundRecords) : Prop where
  line : w.line = s.line
  settings : w.settings = s.settings
  station : w.timer.station = s.timer.station
  bits : ∀ n, n = 3 ∨ n = 4 ∨ n = 7 → w.latches.latched.getLsbD n = s.latches.latched.getLsbD n
  behind : (w.lineBoundary (opening - 1#16) opening r.good r.foreign).LineUnmoved t
  pending : (w.lineBoundary (opening - 1#16) opening r.good r.foreign).PendingFits → t.PendingFits

/-- A ROUND_BOUNDARY that names the line controller's reaction while it is due (R6). -/
theorem State.takeBoundary_lineTurn {opening : Round} {r : RoundRecords} {due pre post : List BoundaryReaction}
    (h : s.Meets opening r due) (hdue : .line ∈ due) (hpre : .line ∉ pre) :
    ∃ w, s.LineTurn w (s.takeBoundary (pre ++ .line :: post)) opening r ∧
      w.peers = if .peers ∈ pre ∧ .peers ∈ due then (s.peersBoundary (opening - 1#16)).peers else s.peers := by
  have hb := State.beginBoundary_meets h
  have hbegun := beginBoundary_keeps s
  have hbegunStation := s.beginBoundary_station
  have hbefore := State.LineUnmoved.foldl_react pre hb fun h => absurd h hpre
  have hpeers := State.foldl_react_peers pre hb hpre
  obtain ⟨b, hb', hopening, hrecords, hdue'⟩ := hbefore.boundary _ hb
  have hsame : s.SamePeers s.beginBoundary :=
    ⟨hbegun .peers (by decide), hbegun .settings (by decide), hbegunStation⟩
  rw [hsame.peersBoundary, hsame.peers] at hpeers
  have htaken : s.takeBoundary (pre ++ .line :: post) =
      post.foldl State.react ((pre.foldl State.react s.beginBoundary).react .line) := by
    rw [State.takeBoundary, List.foldl_append, List.foldl_cons]
  generalize pre.foldl State.react s.beginBoundary = w at *
  have hreact := State.react_due w .line b (by decide) hb' (hdue'.mpr hdue)
  rw [hrecords, hopening, Option.getD_some] at hreact
  have hafter : (w.react .line).timer.boundary = some (b.without .line) := by rw [State.react_timer hb' (by decide)]
  have hbehind := State.LineUnmoved.foldl_react post hafter fun _ => by simp [Boundary.without]
  have hpending (hfits : (w.react .line).PendingFits) : (post.foldl State.react (w.react .line)).PendingFits :=
    State.PendingFits.foldl hfits (fun _ x hx => hx.react x) post
  refine ⟨w.setTimer { w.timer with boundary := some (b.without .line) }, ⟨hbefore.line.trans (hbegun .line (by decide)),
    hbefore.settings.trans (hbegun .settings (by decide)), hbefore.station.trans hbegunStation,
    fun n hn => (hbefore.bits n hn).trans (by rw [hbegun .latches (by decide)]), ?_, ?_⟩, hpeers⟩
  · rw [htaken, hreact] at *
    exact hbehind
  · rw [htaken, hreact] at *
    exact hpending

/-- The peers as they stand when the line controller asks: those of `s`, or as the peer table's reaction has left them. -/
theorem State.LineTurn.asks {w : State} {opening : Round} {r : RoundRecords} {p : Prop} [Decidable p]
    (h : s.LineTurn w t opening r) (hpeers : w.peers = if p then (s.peersBoundary (opening - 1#16)).peers else s.peers) :
    (if p then s.peersBoundary (opening - 1#16) else s).SamePeers w := by
  have hkeeps := peersBoundary_keeps s (opening - 1#16)
  split
  · next hp =>
    rw [if_pos hp] at hpeers
    exact ⟨hpeers, h.settings.trans (hkeeps .settings (by decide)).symm,
      h.station.trans (by rw [hkeeps .timer (by decide)])⟩
  · next hp =>
    rw [if_neg hp] at hpeers
    exact ⟨hpeers, h.settings, h.station⟩

theorem State.changedLine_congr (hline : t.line = s.line) (hsettings : t.settings = s.settings)
    (hstation : t.timer.station = s.timer.station) (target : LineState) : t.changedLine target = s.changedLine target := by
  rw [State.changedLine, State.listenBeats, hline, hsettings, hstation, State.changedLine, State.listenBeats]

/-- What the line controller's reaction leaves behind, where it is a change of state with events besides. -/
structure State.TurnedTo (s t : State) (target : LineState) (bits : EventSet) (l : LineController) : Prop where
  line : t.line = l
  bits : ∀ n, n = 3 ∨ n = 4 ∨ n = 7 → t.latches.latched.getLsbD n = (s.latches.latched.getLsbD n || (0x80#8 ||| bits).getLsbD n)
  idle : target = .listen ∨ target = .offline → t.frames.view = 0#16 ∧ ∀ i, (t.entry i).pending = false

namespace State.LineTurn

variable {w : State} {opening : Round} {r : RoundRecords}

/-- The line controller leaves its own record alone, or changes it alone. -/
theorem stays (h : s.LineTurn w t opening r) {l : LineController}
    (hv : w.lineBoundary (opening - 1#16) opening r.good r.foreign = w.setLine l) :
    t.line = l ∧ ∀ n, n = 3 ∨ n = 4 ∨ n = 7 → t.latches.latched.getLsbD n = s.latches.latched.getLsbD n := by
  have hbehind := h.behind
  rw [hv] at hbehind
  exact ⟨hbehind.line, fun n hn => (hbehind.bits n hn).trans (h.bits n hn)⟩

/-- It changes its state. -/
theorem moves (h : s.LineTurn w t opening r) {before behind : LineController} {bits : EventSet} {p : PeerTable}
    (hv : w.lineBoundary (opening - 1#16) opening r.good r.foreign = w.movedTo before behind bits p) :
    s.TurnedTo t behind.state bits behind := by
  have hbehind := h.behind
  have hpending := h.pending
  rw [hv] at hbehind hpending
  refine ⟨hbehind.line, fun n hn => ?_, fun hidle => ?_⟩
  · rw [hbehind.bits n hn, State.movedTo_latches, Latches.add_events, ← h.bits n hn, BitVec.getLsbD_or]
  · have hnone (i : EntryIndex) : ((w.movedTo before behind bits p).entry i).pending = false := by
      rw [State.movedTo_entry_idle w before behind bits p hidle]
      by_cases hi : (w.entry i).pending = true
      · rw [if_pos hi]
        rfl
      · rw [if_neg hi]
        exact Bool.not_eq_true _ ▸ hi
    refine ⟨hbehind.view hidle.symm ?_, fun i => ?_⟩
    · rw [State.movedTo_frames_idle w before behind bits p hidle]
    · refine (hpending (State.pendingFits_of_none hnone)).onlySynced ?_ i
      have hline : t.line.state = behind.state := congrArg LineController.state hbehind.line
      rw [hline]
      rcases hidle with h | h <;> rw [h] <;> rfl

end State.LineTurn

/-- A change of state with nothing besides. -/
theorem State.LineTurn.enters {w : State} {opening : Round} {r : RoundRecords} (h : s.LineTurn w t opening r)
    {target : LineState} (hv : w.lineBoundary (opening - 1#16) opening r.good r.foreign = w.enter target) :
    s.TurnedTo t target 0#8 (s.changedLine target) := by
  rw [State.enter_movedTo_here, State.changedLine_congr h.line h.settings h.station] at hv
  exact h.moves hv

/-- STATE_CHANGE is latched, and what is raised besides (R59). -/
theorem State.TurnedTo.bit {target : LineState} {bits : EventSet} {l : LineController} (h : s.TurnedTo t target bits l) {n : Nat}
    (hn : n = 3 ∨ n = 4 ∨ n = 7) (hbit : (0x80#8 ||| bits).getLsbD n = true) : t.latches.latched.getLsbD n = true := by
  rw [h.bits n hn, hbit, Bool.or_true]

theorem State.TurnedTo.bit_kept {target : LineState} {bits : EventSet} {l : LineController} (h : s.TurnedTo t target bits l)
    {n : Nat} (hn : n = 3 ∨ n = 4 ∨ n = 7) (hbit : (0x80#8 ||| bits).getLsbD n = false) :
    t.latches.latched.getLsbD n = s.latches.latched.getLsbD n := by
  rw [h.bits n hn, hbit, Bool.or_false]

/-- The yield, to LISTEN or, with leave pending, to OFFLINE (R51, R55). -/
theorem State.LineTurn.yield {w : State} {opening : Round} {r : RoundRecords} (h : s.LineTurn w t opening r)
    (hv : w.lineBoundary (opening - 1#16) opening r.good r.foreign = w.yield) :
    (s.line.leavePending = false → s.TurnedTo t .listen 0x08#8 (s.changedLine .listen)) ∧
      (s.line.leavePending = true → s.TurnedTo t .offline 0#8 (s.changedLine .offline)) := by
  refine ⟨fun hleave => ?_, fun hleave => ?_⟩
  · rw [← h.line] at hleave
    rw [State.yield_listen w hleave, State.changedLine_congr h.line h.settings h.station] at hv
    exact h.moves hv
  · rw [← h.line] at hleave
    rw [State.yield_leave w hleave] at hv
    exact h.enters hv

/-- The exclusion check, with the counts of the peers' views (R52, R55, R71). -/
theorem State.LineTurn.excludes {w : State} {opening : Round} {r : RoundRecords} {p q : Nat} (h : s.LineTurn w t opening r)
    (hv : w.lineBoundary (opening - 1#16) opening r.good r.foreign = w.exclusionCheck (opening - 1#16))
    (hactive : s.line.state = .active)
    (hless : w.viewCount (opening - 1#16) true < w.viewCount (opening - 1#16) false ↔ q < p) :
    t.latches.latched.getLsbD 3 = s.latches.latched.getLsbD 3 ∧
      (p ≤ q → t.line = { s.line with excluded := 0 }) ∧
      (q < p → s.line.excluded = 0 → t.line = { s.line with excluded := 1 }) ∧
      (q < p → 1 ≤ s.line.excluded → s.line.leavePending = false →
        t.line.state = .passive ∧ t.line.excluded = 0 ∧ t.line.hold = 0 ∧ t.latches.latched.getLsbD 7 = true) ∧
      (q < p → 1 ≤ s.line.excluded → s.line.leavePending = true →
        t.line.state = .offline ∧ t.line.leavePending = false ∧ t.line.excluded = 0 ∧
        t.latches.latched.getLsbD 7 = true ∧ t.frames.view = 0#16 ∧ ∀ i, (t.entry i).pending = false) := by
  have hline := h.line
  by_cases hpq : q < p
  · have hcount := hless.mpr hpq
    have hle : ¬p ≤ q := Nat.not_le.mpr hpq
    by_cases hzero : s.line.excluded = 0
    · have hmore : ¬1 ≤ s.line.excluded := by omega
      rw [State.exclusionCheck_first hcount (by rw [hline]; exact hzero)] at hv
      obtain ⟨htline, hbits⟩ := h.stays hv
      refine ⟨hbits 3 (by decide), fun h => absurd h hle, fun _ _ => by rw [htline, hline], fun _ h => absurd h hmore,
        fun _ h => absurd h hmore⟩
    · have hmore : 1 ≤ w.line.excluded := by rw [hline]; omega
      cases hleave : s.line.leavePending with
      | false =>
        rw [State.exclusionCheck_passive hcount hmore (by rw [hline]; exact hleave), State.exclusion_movedTo] at hv
        have hmoved := h.moves hv
        refine ⟨hmoved.bit_kept (by decide) (by decide), fun h => absurd h hle, fun _ h => absurd h hzero, fun _ _ _ => ?_,
          fun _ _ h => absurd h Bool.false_ne_true⟩
        have hexcluded : t.line.excluded = 0 := by
          rw [hmoved.line]
          exact if_pos (by rw [hline]; exact hactive)
        have hhold : t.line.hold = 0 := by
          rw [hmoved.line]
          exact ite_self 0
        exact ⟨by rw [hmoved.line]; rfl, hexcluded, hhold, hmoved.bit (by decide) (by decide)⟩
      | true =>
        rw [State.exclusionCheck_leaves hcount hmore (by rw [hline]; exact hleave)] at hv
        have hmoved := h.enters hv
        refine ⟨hmoved.bit_kept (by decide) (by decide), fun h => absurd h hle, fun _ h => absurd h hzero,
          fun _ _ h => absurd h.symm Bool.false_ne_true, fun _ _ _ => ?_⟩
        exact ⟨by rw [hmoved.line]; rfl, by rw [hmoved.line]; exact Bool.and_false _,
          by rw [hmoved.line]; exact if_pos hactive, hmoved.bit (by decide) (by decide), hmoved.idle (.inr rfl)⟩
  · rw [State.exclusionCheck_heard (Nat.not_lt.mp fun h => hpq (hless.mp h))] at hv
    obtain ⟨htline, hbits⟩ := h.stays hv
    exact ⟨hbits 3 (by decide), fun _ => by rw [htline, hline], fun h => absurd h hpq, fun h => absurd h hpq,
      fun h => absurd h hpq⟩

/-- Settles O23: the reaction itself, and the row of reactions cut at the line controller's turn. -/
theorem roundBoundaryMovesLineController : Obligations.RoundBoundaryMovesLineController := by
  refine ⟨fun u v closing opening good foreign hv => ?_, fun order s opening r due hrunning hmeets => ?_⟩
  · have hkeeps : Keeps entering u v := hv ▸ lineBoundary_keeps u closing opening good foreign
    have hmoves : u.LineMoves v := hv ▸ u.lineBoundary_moves closing opening good foreign
    refine ⟨hkeeps.eq_taking, hmoves.of_same, fun hne => ?_⟩
    obtain ⟨hlatches, hchannel, hother, hidle⟩ := State.lineBoundary_alters closing opening good foreign hv hne
    refine ⟨fun bits hbits => ?_, hchannel, hother, hidle⟩
    rw [hlatches, Latches.add_events, hbits, LineState.raises, BitVec.or_assoc]
  · have hb := State.beginBoundary_meets hmeets
    have hbegun : s.beginBoundary.line = s.line := beginBoundary_keeps s .line (by decide)
    refine ⟨_, exec_roundBoundary hrunning order, fun hnot => ?_, fun horder hdue => ?_⟩
    · refine (State.LineUnmoved.foldl_react order hb fun h hd => ?_).line.trans hbegun
      exact hnot.elim (· h) (· hd)
    have hsplit (pre post : List BoundaryReaction) (hpre : .line ∉ pre) :=
      State.takeBoundary_lineTurn (post := post) hmeets hdue hpre
    obtain ⟨pre, post, rfl, hpre⟩ := List.eq_append_cons_of_mem horder
    obtain ⟨w, hturn, _⟩ := hsplit pre post hpre
    have hline := hturn.line
    refine ⟨fun hstate => ?_, fun hstate hsent => ?_, fun hstate hsent => ?_, fun hstate hround => ?_,
      fun hstate hround hgood => ?_, fun hstate hround hgood => ?_, fun own hown hyields => ?_,
      fun pre' post' u p q horder' hpre' hu hp hq hstate hyields => ?_, fun hstate hyields hhold => ?_,
      fun hstate hyields hhold => ?_⟩
    · exact (hturn.stays (l := w.line) (State.lineBoundary_idle (by rw [hline]; exact hstate))).1.trans hline
    · refine (hturn.stays (l := w.line) ?_).1.trans hline
      rw [State.lineBoundary_coldstart (by rw [hline]; exact hstate), if_neg (by rw [hline]; exact hsent)]
      rfl
    · obtain ⟨p, hp⟩ := w.becomeAlone_movedTo opening
      have hv := State.lineBoundary_coldstart (s := w) (c := opening - 1#16) (opening := opening) (good := r.good)
        (foreign := r.foreign) (by rw [hline]; exact hstate)
      rw [if_pos (by rw [hline]; exact hsent), hp] at hv
      have hmoved := hturn.moves hv
      exact ⟨by rw [hmoved.line]; rfl, by rw [hmoved.line], by rw [hmoved.line], hmoved.bit (by decide) (by decide),
        hmoved.bit (by decide) (by decide)⟩
    · refine (hturn.stays (l := w.line) ?_).1.trans hline
      rw [State.lineBoundary_integrating (by rw [hline]; exact hstate), if_neg (by rw [hline]; exact hround)]
      rfl
    · have hmoved := hturn.enters (target := .active) (by
        rw [State.lineBoundary_integrating (by rw [hline]; exact hstate), if_pos (by rw [hline]; exact hround), if_neg hgood])
      exact ⟨by rw [hmoved.line]; rfl, by rw [hmoved.line]; exact if_pos hstate, hmoved.bit (by decide) (by decide)⟩
    · have hmoved := hturn.enters (target := .listen) (by
        rw [State.lineBoundary_integrating (by rw [hline]; exact hstate), if_pos (by rw [hline]; exact hround), if_pos hgood])
      exact ⟨by rw [hmoved.line]; rfl, by rw [hmoved.line]; exact if_pos hstate, by rw [hmoved.line]; rfl,
        (hmoved.idle (.inl rfl)).1, hmoved.bit (by decide) (by decide), (hmoved.idle (.inl rfl)).2⟩
    · obtain ⟨hlisten, hoffline⟩ := hturn.yield (State.lineBoundary_yields (own := own)
        (by rw [hline, hturn.station]; exact hown) hyields)
      cases hleave : s.line.leavePending with
      | false =>
        have hmoved := hlisten hleave
        exact ⟨fun h => by rw [hmoved.line]; exact if_pos h, by rw [hmoved.line]; rfl, hmoved.bit (by decide) (by decide),
          (hmoved.idle (.inl rfl)).1, (hmoved.idle (.inl rfl)).2,
          fun _ => ⟨by rw [hmoved.line]; rfl, hmoved.bit (by decide) (by decide), by rw [hmoved.line]; rfl⟩,
          fun h => absurd h Bool.false_ne_true⟩
      | true =>
        have hmoved := hoffline hleave
        exact ⟨fun h => by rw [hmoved.line]; exact if_pos h, by rw [hmoved.line]; rfl, hmoved.bit (by decide) (by decide),
          (hmoved.idle (.inr rfl)).1, (hmoved.idle (.inr rfl)).2, fun h => absurd h.symm Bool.false_ne_true,
          fun _ => ⟨by rw [hmoved.line]; rfl, by rw [hmoved.line]; exact Bool.and_false _,
            hmoved.bit_kept (by decide) (by decide)⟩⟩
    · obtain ⟨w, hturn, hpeers⟩ := hsplit pre' post' hpre'
      rw [← horder'] at hturn
      have hasks : u.SamePeers w := hu ▸ hturn.asks hpeers
      have hline := hturn.line
      have hv := State.lineBoundary_active (s := w) (c := opening - 1#16) (opening := opening) (good := r.good)
        (foreign := r.foreign) (by rw [hline]; exact hstate) (by rw [hturn.station]; exact hyields)
      have hless : w.viewCount (opening - 1#16) true < w.viewCount (opening - 1#16) false ↔ q < p := by
        rw [hasks.viewCount, hasks.viewCount, State.viewCount_eq, State.viewCount_eq, hp, hq]
      exact hturn.excludes hv hstate hless
    · refine (hturn.stays (l := { w.line with hold := w.line.hold + 1 }) ?_).1.trans (by rw [hline])
      rw [State.lineBoundary_passive (by rw [hline]; exact hstate) hyields, State.passiveHold_counts (by rw [hline]; exact hhold)]
    · have hv := State.lineBoundary_passive (s := w) (c := opening - 1#16) (opening := opening) (foreign := r.foreign)
        (by rw [hline]; exact hstate) hyields
      rw [State.passiveHold_integrates (by rw [hline]; exact hhold), State.integrates_movedTo] at hv
      have hmoved := hturn.moves hv
      exact ⟨by rw [hmoved.line]; rfl, by rw [hmoved.line]; exact if_pos (by rw [hline]; exact hstate), by rw [hmoved.line],
        hmoved.bit (by decide) (by decide)⟩

end Sys2Proof.Machine
end

section
/-!
PROOFS about ROUND_BOUNDARY as the fold of its reactions (R6, R23, R34).
-/

namespace Sys2Proof.Machine

-- One lemma after another: side by side, the evaluations of `decide` would each hold a thread.
set_option Elab.async false

variable {s t u : State}

/-! ### What every reaction leaves of frame layer and port -/

/-- The transmission runs on, records that are empty stay empty, and of the port only the note of closed entries differs. -/
structure State.RestKept (s t : State) : Prop where
  transmitting : t.frames.transmitting = s.frames.transmitting
  records : s.records = { good := 0#16, foreign := 0#16, mark := false } →
    t.records = { good := 0#16, foreign := 0#16, mark := false }
  port : t.port = { s.port with closedNow := t.port.closedNow }

namespace State.RestKept

theorem refl (s : State) : s.RestKept s := ⟨rfl, id, rfl⟩

theorem trans (h : s.RestKept t) (h' : t.RestKept u) : s.RestKept u :=
  ⟨h'.transmitting.trans h.transmitting, fun hs => h'.records (h.records hs), by rw [h'.port, h.port]⟩

theorem of_queues (h : s.QueuesOnly t) (hport : t.port = { s.port with closedNow := t.port.closedNow }) : s.RestKept t := by
  refine ⟨by rw [h], fun hs => ?_, hport⟩
  rw [State.records, h]
  exact hs

theorem of_port (h : s.QueuesOnly t) (hport : t.port = s.port) : s.RestKept t := of_queues h (by rw [hport])

theorem lineBoundary (s : State) (c opening : Round) (good foreign : StationSet) :
    s.RestKept (s.lineBoundary c opening good foreign) := by
  have hkeeps := lineBoundary_keeps s c opening good foreign
  have hport := hkeeps .port (by decide)
  have hmoves := s.lineBoundary_moves c opening good foreign
  generalize hv : s.lineBoundary c opening good foreign = v at *
  by_cases hsame : v.line.state = s.line.state
  · rw [hmoves.of_same hsame]
    exact ⟨rfl, id, rfl⟩
  · obtain ⟨_, _, hother, hidle⟩ := State.lineBoundary_alters c opening good foreign hv.symm hsame
    by_cases ht : v.line.state = .listen ∨ v.line.state = .offline
    · refine ⟨by rw [(hidle ht).1]; rfl, fun _ => by rw [State.records, (hidle ht).1], by rw [hport]⟩
    · rw [not_or] at ht
      exact .of_port (.of_frames (hother ht.1 ht.2).1) hport

theorem reactionOf (s : State) (opening : Round) (r : RoundRecords) (x : BoundaryReaction) :
    s.RestKept (s.reactionOf opening r x) := by
  cases x with
  | view => exact ⟨rfl, id, rfl⟩
  | peers => exact .of_port (.peersBoundary s _) (peersBoundary_keeps s _ .port (by decide))
  | line => exact .lineBoundary s _ _ _ _
  | table =>
    have hport : (s.openTable opening).port = { s.port with closedNow := (s.openTable opening).port.closedNow } := by
      have htable : ((s.setTimer { s.timer with round := opening }).tableBoundary opening).port = s.port :=
        tableBoundary_keeps _ opening .port (by decide)
      rw [State.openTable, State.noteClosed, State.setPort_port, htable]
    exact .of_queues (.openTable s opening) hport
  | assembly => exact .refl s

theorem react (s : State) (x : BoundaryReaction) : s.RestKept (s.react x) := by
  by_cases hassembly : x = .assembly
  · subst hassembly
    rw [State.react_assembly]
    split
    · exact .of_port (.takeOwnOpening s) (takeOwnOpening_keeps s .port (by decide))
    · exact .refl s
  · unfold State.react
    rw [if_neg hassembly]
    split
    · exact .refl s
    · next b _ =>
      split
      · have htimer : s.RestKept (s.setTimer { s.timer with boundary := some (b.without x) }) := ⟨rfl, id, rfl⟩
        exact htimer.trans (.reactionOf _ _ _ x)
      · exact .refl s

theorem foldl_react (order : List BoundaryReaction) (s : State) : s.RestKept (order.foldl State.react s) := by
  induction order generalizing s with
  | nil => exact .refl s
  | cons x order ih => exact (react s x).trans (ih (s.react x))

end State.RestKept

/-- The records start empty where they are handed over (R23). -/
theorem State.handOver_records (s : State) (b : Boundary) :
    (s.handOver b).records = { good := 0#16, foreign := 0#16, mark := false } := rfl

theorem State.beginBoundary_slot (s : State) :
    s.beginBoundary.timer.slot = if s.timer.dueBoundary = none then 0 else s.timer.slot := by
  rcases s.beginBoundary_cases with ⟨b, hnone, h⟩ | ⟨b, hb, hdue, _, h⟩ | ⟨b, r, hb, hdue, _, h⟩
  · rw [h, if_pos hnone, State.handOver, State.setFrames_timer, State.setTimer_timer, State.reachRound_timer]
    rfl
  · rw [h, RoundTimer.dueBoundary_of_some hb, if_neg hdue, if_neg (by simp)]
    rfl
  · rw [h, RoundTimer.dueBoundary_of_some hb, if_neg hdue, if_neg (by simp)]

/-- A boundary whose records are not handed over yet hands them over. -/
theorem State.beginBoundary_records (h : ∀ b, s.timer.boundary = some b → b.records = none ∨ b.due = []) :
    s.beginBoundary.records = { good := 0#16, foreign := 0#16, mark := false } := by
  rcases s.beginBoundary_cases with ⟨b, _, hbegun⟩ | ⟨b, _, _, _, hbegun⟩ | ⟨b, r, hb, hdue, hr, _⟩
  · rw [hbegun, State.handOver_records]
  · rw [hbegun, State.handOver_records]
  · rcases h b hb with hnone | hempty
    · rw [hr] at hnone
      cases hnone
    · exact absurd hempty hdue

/-- The table's reaction, with the note of the entries that it has closed (R89, log entry 33). -/
theorem State.openTable_eq (s : State) (opening : Round) (u : State)
    (hu : u = (s.setTimer { s.timer with round := opening }).tableBoundary opening) :
    s.openTable opening =
      { u with
        port :=
          { s.port with
            closedNow := allSixteen.filter fun i => decide ((s.entry i).state ≠ .done ∧ (u.entry i).state = .done) } } := by
  have hport : u.port = s.port := hu ▸ tableBoundary_keeps _ opening .port (by decide)
  rw [State.openTable, ← hu, State.noteClosed, hport]
  rfl

/-- Settles O22. -/
theorem roundBoundaryClosesRecords : Obligations.RoundBoundaryClosesRecords := by
  intro order s hrunning
  have hexec := exec_roundBoundary hrunning order
  have hkeeps := takeBoundary_keeps s order
  have hrest := State.RestKept.foldl_react order s.beginBoundary
  refine ⟨⟨_, hexec, hrest.transmitting.trans s.beginBoundary_frames.2, hkeeps .settings (by decide), hkeeps .locked (by decide),
    hkeeps .counters (by decide), hkeeps .triggers (by decide), ?_, fun opening r due hmeets hassembly => ?_⟩,
    fun hnone hcorrection => ?_, fun b hb hdue hr => ?_, fun b r hb hdue hr => ?_, fun hnone x hx => ?_, fun b r hb hr => ?_,
    fun htaken => ?_, fun hzero hown => ?_⟩
  · have hport := hrest.port
    rw [beginBoundary_keeps s .port (by decide)] at hport
    exact hport
  · obtain ⟨hboundary, _, hslot, _⟩ := State.foldl_react_timer order (State.beginBoundary_meets hmeets) hassembly
    have hempty : (s.takeBoundary order).records = { good := 0#16, foreign := 0#16, mark := false } →
        (s.takeBoundary order).frames.good = 0#16 ∧ (s.takeBoundary order).frames.foreign = 0#16 ∧
          (s.takeBoundary order).frames.mark = false := RoundRecords.mk.inj
    refine ⟨hslot.trans ?_, fun b hb hfresh => hempty (hrest.records ?_), fun hnone => hempty (hrest.records ?_), _, hboundary,
      rfl, rfl⟩
    · exact s.beginBoundary_slot
    · refine State.beginBoundary_records fun c hc => ?_
      rw [hb] at hc
      cases hc
      exact hfresh
    · refine State.beginBoundary_records fun c hc => ?_
      rw [hnone] at hc
      cases hc
  · rw [hexec, State.takeBoundary, State.beginBoundary_reached hnone, State.reachRound, State.applyCorrection_hold hcorrection]
    rfl
  · rw [hexec, State.takeBoundary, State.beginBoundary_due hb hdue hr]
    rfl
  · rw [hexec, State.takeBoundary, State.beginBoundary_handed hb hdue hr]
  · exact State.react_taken s x hx fun c hc => by rw [hnone] at hc; cases hc
  · have hdue (x : BoundaryReaction) (hx : x ≠ .assembly) (hmem : x ∈ b.due) :
        s.react x = (s.setTimer { s.timer with boundary := some (b.without x) }).reactionOf b.opening r x := by
      rw [State.react_due s x b hx hb hmem, hr, Option.getD_some]
    refine ⟨fun x hx hnot => State.react_taken s x hx fun c hc => by rw [hb] at hc; cases hc; exact hnot, fun h => ?_,
      fun h => hdue .peers (by decide) h, fun h => hdue .line (by decide) h, fun u hu h => ?_⟩
    · rw [hdue .view (by decide) h]
      rfl
    · rw [hdue .table (by decide) h]
      exact State.openTable_eq (s.setTimer { s.timer with boundary := some (b.without .table) }) b.opening u hu
  · rw [State.react_assembly]
    split
    · next hzero => exact s.takeOwnOpening_taken (htaken.elim (fun h => absurd hzero h) id)
    · rfl
  · rw [State.react_assembly, if_pos hzero]
    refine ⟨by rw [State.takeOwnOpening, if_pos hown]; rfl, fun hslot hbeat hsize => ?_⟩
    rw [exec_ownSlotOpens hrunning (by rw [hzero]; exact hsize), if_pos ⟨hslot.trans hzero.symm, hbeat⟩]

end Sys2Proof.Machine
end

section
/-!
PROOFS about SEND_OFFSET: the test for completion on one entry, the commits of a carriage, and the start of a transmission (R30,
R43, R89, R115).
-/

namespace Sys2Proof.Machine

-- One lemma after another: side by side, the evaluations of `decide` would each hold a thread.
set_option Elab.async false

variable {s t u : State}

/-! ### The test for completion on one entry -/

/-- The entry behind its test for completion (R115 to R118). -/
def State.tested (s : State) (e : Entry) : Entry :=
  if e.state = .armed ∧ s.arrivalsKnown e = true then
    if precedes s.timer.round (s.fireRoundOf e) = true then
      { e with state := .complete, fireRound := some (s.fireRoundOf e), late := false }
    else if e.record.late = .skip then { e with state := .done, outcome := some .missed, reason := none }
    else { e with state := .complete, fireRound := some (s.timer.round + 1#16), late := true }
  else e

/-- The test by its outcomes: nothing, COMPLETE, or MISSED. -/
theorem State.testCompletion_cases (s : State) (i : EntryIndex) :
    s.testCompletion i = s ∧ s.tested (s.entry i) = s.entry i ∨
      (s.entry i).state = .armed ∧ s.testCompletion i = s.setEntry i (s.tested (s.entry i)) ∧
        (s.tested (s.entry i)).state = .complete ∨
      (s.entry i).state = .armed ∧ s.testCompletion i = s.closeEntry i .missed none ∧
        s.tested (s.entry i) = { s.entry i with state := .done, outcome := some .missed, reason := none } := by
  by_cases htest : (s.entry i).state = .armed ∧ s.arrivalsKnown (s.entry i) = true
  · rw [State.tested, if_pos htest]
    by_cases hahead : precedes s.timer.round (s.fireRoundOf (s.entry i)) = true
    · rw [if_pos hahead]
      exact .inr (.inl ⟨htest.1, State.testCompletion_intime htest.1 htest.2 hahead, rfl⟩)
    · rw [if_neg hahead]
      cases hpolicy : (s.entry i).record.late with
      | skip => exact .inr (.inr ⟨htest.1, State.testCompletion_missed htest.1 htest.2 hahead hpolicy, rfl⟩)
      | apply => exact .inr (.inl ⟨htest.1, State.testCompletion_late htest.1 htest.2 hahead hpolicy, rfl⟩)
  · rw [State.tested, if_neg htest]
    exact .inl ⟨if_neg htest, rfl⟩

theorem State.testCompletion_entry (s : State) (i j : EntryIndex) :
    (s.testCompletion i).entry j = if j = i then s.tested (s.entry i) else s.entry j := by
  by_cases hj : j = i
  · subst hj
    rw [if_pos rfl]
    rcases s.testCompletion_cases j with ⟨h, hsame⟩ | ⟨_, h, _⟩ | ⟨_, h, hclosed⟩
    · rw [h, hsame]
    · rw [h, State.entry_setEntry, if_pos rfl]
    · rw [h, State.closeEntry_entry, if_pos rfl, hclosed]
  · rw [if_neg hj, State.testCompletion_other s i j hj]

theorem State.Closes.testCompletion (s : State) (i : EntryIndex) : s.Closes (s.testCompletion i) := by
  rcases s.testCompletion_cases i with ⟨h, _⟩ | ⟨harmed, h, hcomplete⟩ | ⟨harmed, h, _⟩
  · rw [h]; exact .refl s
  · rw [h]; exact .setEntry s i _ (by rw [harmed, hcomplete]; decide)
  · rw [h]; exact .closeEntry s i _ _ (by rw [harmed]; decide)

/-- The test looks at the round in progress, the station number and the settings, and at nothing else besides the entry. -/
theorem State.tested_congr (hround : t.timer.round = s.timer.round) (hstation : t.timer.station = s.timer.station)
    (hsettings : t.settings = s.settings) (e : Entry) :
    t.tested e = s.tested e := by
  have hpart : t.participates e = s.participates e := by rw [State.participates, hstation, State.participates]
  have hothers : t.otherParticipants e = s.otherParticipants e := by
    rw [State.otherParticipants, hstation, State.otherParticipants]
  have hknown : t.arrivalsKnown e = s.arrivalsKnown e := by rw [State.arrivalsKnown, hpart, hothers, State.arrivalsKnown]
  have hrounds : t.knownRounds e = s.knownRounds e := by rw [State.knownRounds, hpart, hothers, State.knownRounds]
  have hlead : t.agreedLead e = s.agreedLead e := by
    rw [State.agreedLead, State.effectiveLead, hpart, hsettings, State.agreedLead, State.effectiveLead]
  have hfire : t.fireRoundOf e = s.fireRoundOf e := by rw [State.fireRoundOf, hrounds, hlead, hround, State.fireRoundOf]
  rw [State.tested, hknown, hfire, hround, State.tested]

/-! ### The start of the transmission commits the carriage -/

/-- An entry behind the start of the transmission that carries it (R30, R115). -/
def State.carriedEntry (s : State) (round : Round) (e : Entry) : Entry :=
  if e.pending = true then s.tested { e with ownAnnounce := some round } else e

theorem State.carriedEntry_pending {e : Entry} (h : e.pending = true) (s : State) (round : Round) :
    s.carriedEntry round e = s.tested { e with ownAnnounce := some round } := if_pos h

theorem State.carriedEntry_other {e : Entry} (h : e.pending = false) (s : State) (round : Round) : s.carriedEntry round e = e :=
  if_neg (by rw [h]; exact Bool.false_ne_true)

/-- The test leaves all but state, fire round and close alone; an entry that it has completed it does not change again. -/
theorem State.tested_ownAnnounce (s : State) (e : Entry) : (s.tested e).ownAnnounce = e.ownAnnounce := by
  unfold State.tested
  split
  · split
    · rfl
    · split <;> rfl
  · rfl

theorem State.tested_cases (s : State) (e : Entry) :
    s.tested e = e ∨ (s.tested e).state = .complete ∨ (s.tested e).state = .done := by
  unfold State.tested
  split
  · split
    · exact .inr (.inl rfl)
    · split
      · exact .inr (.inr rfl)
      · exact .inr (.inl rfl)
  · exact .inl rfl

theorem State.tested_of_not_armed {e : Entry} (h : e.state ≠ .armed) (s : State) : s.tested e = e :=
  if_neg fun hc => h hc.1

/-- An entry that the carriage names twice is committed once. -/
theorem State.carriedEntry_carriedEntry (s : State) (round : Round) (e : Entry) :
    s.carriedEntry round (s.carriedEntry round e) = s.carriedEntry round e := by
  by_cases hpending : e.pending = true
  · have hfirst := State.carriedEntry_pending hpending s round
    have hown : ({ s.carriedEntry round e with ownAnnounce := some round } : Entry) = s.carriedEntry round e := by
      have hsame : (s.carriedEntry round e).ownAnnounce = some round := by rw [hfirst, State.tested_ownAnnounce]
      rw [← hsame]
    by_cases hagain : (s.carriedEntry round e).pending = true
    · rw [State.carriedEntry_pending hagain, hown]
      rcases s.tested_cases { e with ownAnnounce := some round } with h | h | h
      · rw [hfirst, h, h]
      · rw [hfirst]
        exact State.tested_of_not_armed (by rw [h]; decide) s
      · rw [hfirst]
        exact State.tested_of_not_armed (by rw [h]; decide) s
    · exact State.carriedEntry_other (Bool.not_eq_true _ ▸ hagain) s round
  · have hnot := Bool.not_eq_true _ ▸ hpending
    rw [State.carriedEntry_other hnot, State.carriedEntry_other hnot]

theorem State.carriedEntry_congr (htimer : t.timer = s.timer) (hsettings : t.settings = s.settings) (round : Round) (e : Entry) :
    t.carriedEntry round e = s.carriedEntry round e := by
  rw [State.carriedEntry, State.tested_congr (by rw [htimer]) (by rw [htimer]) hsettings, State.carriedEntry]

theorem State.commitCarriage_entry (round : Round) (s : State) (i j : EntryIndex) :
    (s.commitCarriage round i).entry j = if j = i then s.carriedEntry round (s.entry i) else s.entry j := by
  unfold State.commitCarriage
  by_cases hpending : (s.entry i).pending = true
  · rw [if_pos hpending, State.testCompletion_entry, State.carriedEntry_pending hpending, State.entry_setEntry, if_pos rfl,
      State.entry_setEntry]
    by_cases hj : j = i
    · rw [if_pos hj, if_pos hj]
      exact State.tested_congr rfl rfl rfl _
    · rw [if_neg hj, if_neg hj, if_neg hj]
  · rw [if_neg hpending, State.carriedEntry_other (Bool.not_eq_true _ ▸ hpending)]
    by_cases hj : j = i
    · rw [if_pos hj, hj]
    · rw [if_neg hj]

theorem State.Closes.commitCarriage (round : Round) (s : State) (i : EntryIndex) : s.Closes (s.commitCarriage round i) := by
  unfold State.commitCarriage
  split
  · exact (State.Closes.setEntry s i { s.entry i with ownAnnounce := some round } (by exact Iff.rfl)).trans (.testCompletion _ i)
  · exact .refl s

theorem State.foldl_commitCarriage_entry (round : Round) (l : List EntryIndex) (s : State) (i : EntryIndex) :
    (l.foldl (State.commitCarriage round) s).entry i = if i ∈ l then s.carriedEntry round (s.entry i) else s.entry i := by
  induction l generalizing s with
  | nil => simp
  | cons j l ih =>
    have hkeeps := commitCarriage_keeps round s j
    rw [List.foldl_cons, ih, State.carriedEntry_congr (hkeeps .timer (by decide)) (hkeeps .settings (by decide)),
      State.commitCarriage_entry]
    by_cases hj : i = j
    · subst hj
      simp [State.carriedEntry_carriedEntry]
    · simp [hj]

theorem State.Closes.foldl_commitCarriage (round : Round) (l : List EntryIndex) (s : State) :
    s.Closes (l.foldl (State.commitCarriage round) s) :=
  .foldl (.commitCarriage round) l s

/-! ### SEND_OFFSET -/

/-- Beat 32 of the own slot (R7, log entry 2). -/
def State.atOffset (s : State) : State :=
  s.setTimer { s.timer.later with slot := s.timer.station, beat := Config.sendOffset }

theorem exec_sendOffset (hrunning : s.resetHeld = false) (hown : s.timer.station.val < s.timer.size) :
    exec .sendOffset s = .next s.atOffset.sendFrame := by
  refine (s.whenRunning_running _ hrunning).trans ?_
  rw [if_pos (s.timer.hasOwnSlot_iff.mpr hown)]
  rfl

/-- The line port drives the frame: the queue is rotated, and a COLD frame counted (R30, R43). -/
def State.drives (s : State) (f : OwnFrame) : State :=
  (s.setFrames
      { s.frames with
        assembled := none, mark := true
        announce := s.frames.announce.rotate f.named
        transmitting := some { kind := f.frame.kind, bytes := encodeFrame f.frame, elapsed := 0 } }).setLine
    { s.line with
      coldSent :=
        if f.frame.kind = .cold ∧ s.line.state = .coldstart then min (s.line.coldSent + 1) 4 else s.line.coldSent }

/-- What the commits of the carriage close is appended, and noted for this instant (R89, R93). -/
theorem State.beginTransmission_eq (s : State) (f : OwnFrame) (u : State)
    (hu : u = f.carriage.foldl (State.commitCarriage f.frame.round) (s.drives f)) :
    s.beginTransmission f =
      { s with
        frames := (s.drives f).frames.shed ((s.drives f).newly u)
        line := (s.drives f).line, entries := u.entries, channels := u.channels
        completions := s.completions ++ allSixteen.filter ((s.drives f).newly u)
        port := { s.port with closedNow := allSixteen.filter ((s.drives f).newly u) } } := by
  have hkeeps : Keeps closing (s.drives f) u := hu ▸ Keeps.foldl (commitCarriage_keeps f.frame.round) (s.drives f) f.carriage
  have hcloses : (s.drives f).Closes u := hu ▸ .foldl_commitCarriage f.frame.round f.carriage (s.drives f)
  have hwhole : u = { s.drives f with entries := u.entries, frames := u.frames, channels := u.channels } := hkeeps.eq_taking
  have hbegin : s.beginTransmission f =
      State.noteClosed (s.drives f) (State.appendClosed (s.drives f) u) := by rw [hu]; rfl
  have hnew : State.newlyDone (s.drives f) u = allSixteen.filter ((s.drives f).newly u) := rfl
  have hnoted : State.newlyDone (s.drives f) (State.appendClosed (s.drives f) u) = State.newlyDone (s.drives f) u := rfl
  rw [hbegin, State.noteClosed, hnoted, State.appendClosed, hnew, ← hcloses.frames]
  generalize (s.drives f).newly u = new
  exact congrArg
    (fun w : State =>
      (w.setCompletions (w.completions ++ allSixteen.filter new)).setPort
        { w.port with closedNow := allSixteen.filter new }) hwhole

/-- The test at beat 32 is that of any beat of the round in progress. -/
theorem State.tested_drives (s : State) (f : OwnFrame) (e : Entry) : (s.atOffset.drives f).tested e = s.tested e :=
  State.tested_congr rfl rfl rfl e

theorem State.newly_self (s : State) : s.newly s = fun _ => false := by
  funext i
  rw [← Bool.not_eq_true, State.newly_iff]
  exact fun h => h.1 h.2

/-- Settles O14. -/
theorem sendOffsetTransmitsOrDrops : Obligations.SendOffsetTransmitsOrDrops := by
  refine ⟨fun s => ⟨fun hnone => ?_, fun x hx => ?_⟩, fun s f hrunning hown hassembled => ⟨fun hstate => ?_, fun hcold hactive => ?_⟩⟩
  · rw [State.lde, State.ltx, hnone]
    exact ⟨rfl, rfl⟩
  · rw [State.lde, State.ltx, hx]
    exact ⟨rfl, rfl⟩
  · have hsends : s.atOffset.line.state.transmits = true := (LineState.transmits_iff _).mpr hstate
    have hat : s.atOffset.frames.assembled = some f := hassembled
    have hcloses := State.Closes.foldl_commitCarriage f.frame.round f.carriage (s.atOffset.drives f)
    have hentry := State.foldl_commitCarriage_entry f.frame.round f.carriage (s.atOffset.drives f)
    have hbegin := s.atOffset.beginTransmission_eq f _ rfl
    have hempty : f.carriage = [] → f.carriage.foldl (State.commitCarriage f.frame.round) (s.atOffset.drives f) =
        s.atOffset.drives f := fun h => by rw [h]; rfl
    have hexec : exec .sendOffset s = .next (s.atOffset.beginTransmission f) := by
      rw [exec_sendOffset hrunning hown]
      simp only [State.sendFrame, hat, if_pos hsends]
    generalize f.carriage.foldl (State.commitCarriage f.frame.round) (s.atOffset.drives f) = u at *
    have hnewly := State.newly_iff (s.atOffset.drives f) u
    refine ⟨_, (s.atOffset.drives f).newly u, fun i => ?_, hexec, ?_, ?_, fun i hi => ?_, fun i hi hpending => ?_, fun k => ?_,
      fun h => ?_⟩
    all_goals rw [hbegin]
    · exact hnewly i
    · rfl
    · rfl
    · refine (hentry i).trans ?_
      split
      · next hmem => exact State.carriedEntry_other (hi.resolve_left fun h => h hmem) _ _
      · rfl
    · have hcarried : u.entry i = s.tested { s.entry i with ownAnnounce := some f.frame.round } := by
        rw [hentry, if_pos hi, State.carriedEntry_pending (by exact hpending)]
        exact s.tested_drives f _
      refine ⟨?_, hcarried.trans ?_⟩
      · exact (congrArg Entry.ownAnnounce hcarried).trans (s.tested_ownAnnounce _)
      · have hset : State.entry { s with entries := s.entries.set i { s.entry i with ownAnnounce := some f.frame.round } } i =
            { s.entry i with ownAnnounce := some f.frame.round } := by
          refine (s.entry_setEntry i i _).trans (if_pos rfl)
        rw [State.testCompletion_entry, if_pos rfl, hset]
        exact (State.tested_congr rfl rfl rfl _).symm
    · exact hcloses.channel k
    · rw [hempty h, State.newly_self]
      exact ⟨rfl, rfl, by rw [filter_false_eq, List.append_nil]; rfl⟩
  · have hsilent : ¬s.atOffset.line.state.transmits = true := fun h =>
      ((LineState.transmits_iff _).mp h).elim hcold hactive
    have hat : s.atOffset.frames.assembled = some f := hassembled
    rw [exec_sendOffset hrunning hown]
    simp only [State.sendFrame, hat, if_neg hsilent]
    rfl

end Sys2Proof.Machine
end

section
/-!
PROOFS about the stages of a table reaction to a boundary: expiry, the swaps of all channels, the marker pulses, and the chains of
a firing set (R119, R132 to R138).
-/

namespace Sys2Proof.Machine

-- One lemma after another: side by side, the evaluations of `decide` would each hold a thread.
set_option Elab.async false

variable {s t u : State} {firing : List EntryIndex}

/-! ### Expiry -/

/-- The ARMED entries whose deadline round opens close EXPIRED, and the others stand as they stood (R119). -/
theorem State.expireDue_entry (s : State) (opening : Round) (i : EntryIndex) :
    (s.expireDue opening).entry i =
      if (s.entry i).state = .armed ∧ (s.entry i).deadlineRound = some opening then
        { s.entry i with state := .done, outcome := some .expired, reason := none }
      else s.entry i := by
  have h := State.foldl_close (fun e => e.state = .armed ∧ e.deadlineRound = some opening) .expired none allSixteen
    allSixteen_nodup s i
  simpa only [State.expireDue, mem_allSixteen, true_and] using h

theorem State.Closes.expireDue (s : State) (opening : Round) : s.Closes (s.expireDue opening) :=
  .closeEach (fun s i => (s.entry i).state = .armed ∧ (s.entry i).deadlineRound = some opening) .expired none
    (fun s i h hdone => by rw [hdone] at h; cases h.1) s allSixteen

theorem Entry.deadlineRound_iff (e : Entry) (opening : Round) :
    e.deadlineRound = some opening ↔
      e.record.deadline ≠ 0#12 ∧ ∃ a, e.armRound = some a ∧ a + e.record.deadline.setWidth 16 = opening := by
  unfold Entry.deadlineRound
  split
  · next h => simp [h]
  · next h => simp [h, Option.map_eq_some_iff]

/-! ### Swaps on every channel -/

theorem hasChannel_or_channelBit (m : ChannelMask) (j k : ChannelIndex) :
    hasChannel (m ||| channelBit k) j = (hasChannel m j || decide (j = k)) := by
  have hbit : (channelBit k).getLsbD j.val = decide (j = k) := by revert j k; decide
  rw [hasChannel, BitVec.getLsbD_or, hbit, hasChannel]

/-- A swap instruction by its two cases: no pair of the firing set, or one standing latest. -/
theorem State.firingPairs_cases (s : State) (firing : List EntryIndex) (k : ChannelIndex) :
    s.firingPairs firing k = [] ∨ ∃ front w, s.firingPairs firing k = front ++ [w] := by
  rcases List.eq_nil_or_concat (s.firingPairs firing k) with h | ⟨front, w, h⟩
  · exact .inl h
  · exact .inr ⟨front, w, h.trans List.concat_eq_append⟩

theorem State.swapChannel_touches (s : State) (k : ChannelIndex) :
    Keeps [.entries, .channels] s (s.swapChannel firing k) := by
  rcases s.firingPairs_cases firing k with h | ⟨front, w, h⟩
  · rw [State.swapChannel_none h]
    exact Keeps.refl _ s
  · rw [State.swapChannel_some h]
    exact ((setChannel_keeps s k _).mono _).trans (Keeps.foldl (fun (s : State) (p : StagedPair) =>
      ((setEntry_keeps s p.tag _).mono _ : Keeps [.entries, .channels] s (s.supersede k p.tag))) _ _)

/-- The entries that take note of a superseded set on a channel. -/
def State.superseding (s : State) (firing : List EntryIndex) (k : ChannelIndex) : List EntryIndex :=
  match (s.firingPairs firing k).getLast? with
  | none => []
  | some w => ((s.firingPairs firing k).filter fun p => decide (p.tag ≠ w.tag)).map StagedPair.tag

theorem State.superseding_some {k : ChannelIndex} {front : List StagedPair} {w : StagedPair}
    (h : s.firingPairs firing k = front ++ [w]) :
    s.superseding firing k = (front.filter fun p => decide (p.tag ≠ w.tag)).map StagedPair.tag := by
  have hothers : ((front ++ [w]).filter fun p => decide (p.tag ≠ w.tag)) = front.filter fun p => decide (p.tag ≠ w.tag) := by
    simp
  simp only [State.superseding, h, List.getLast?_concat, hothers]

theorem State.superseding_firing {k : ChannelIndex} {i : EntryIndex} (h : i ∈ s.superseding firing k) : i ∈ firing := by
  rcases s.firingPairs_cases firing k with hnone | ⟨front, w, hpairs⟩
  · simp [State.superseding, hnone] at h
  · rw [State.superseding_some hpairs] at h
    obtain ⟨p, hp, rfl⟩ := List.mem_map.mp h
    have hmem : p ∈ s.firingPairs firing k := by
      rw [hpairs]
      exact List.mem_append_left _ ((List.mem_filter.mp hp).1)
    have hnamed := (List.mem_filter.mp hmem).2
    rw [List.contains_iff_mem] at hnamed
    exact (List.mem_filter.mp hnamed).1

/-- What a swap does to the entries (R133). -/
theorem State.swapChannel_entry (s : State) (k : ChannelIndex) (i : EntryIndex) :
    (s.swapChannel firing k).entry i =
      if i ∈ s.superseding firing k then { s.entry i with superseded := (s.entry i).superseded ||| channelBit k }
      else s.entry i := by
  rcases s.firingPairs_cases firing k with h | ⟨front, w, h⟩
  · rw [State.swapChannel_none h, State.superseding, h]
    rfl
  · rw [State.swapChannel_some h, State.superseding_some h, State.foldl_supersede]
    rfl

/-- What it does to the channels (R132, R160, R161). -/
theorem State.swapChannel_channel_other (s : State) {j k : ChannelIndex} (h : j ≠ k) :
    (s.swapChannel firing k).channel j = s.channel j := by
  rcases s.firingPairs_cases firing k with hnone | ⟨front, w, hpairs⟩
  · rw [State.swapChannel_none hnone]
  · rw [State.swapChannel_some hpairs, State.supersede_channels, State.swappedTo, State.channel_setChannel, if_neg h]

theorem Channel.start_shed (set : ChannelSet) (staged : List StagedPair) (gone : EntryIndex → Bool) :
    (Channel.start set staged).shed gone = Channel.start set (staged.filter fun p => !gone p.tag) := by
  unfold Channel.start
  cases set.mode with
  | off => rfl
  | level => rfl
  | periodic => by_cases h : set.phase = 0#16 <;> simp only [h, if_true, if_false] <;> rfl
  | burst => by_cases h : set.phase = 0#16 <;> simp only [h, if_true, if_false] <;> rfl

/-- A swap looks at its channel, at the firing set's masks and at the line controller's state, and not at pairs of other
entries: it takes its course where some of these are gone. -/
theorem State.swapChannel_shed {gone : EntryIndex → Bool} {k : ChannelIndex} (hchannel : t.channel k = (s.channel k).shed gone)
    (hgone : ∀ i ∈ firing, gone i = false) (hrecord : ∀ i ∈ firing, (t.entry i).record = (s.entry i).record)
    (hactive : t.isActive = s.isActive) :
    (t.swapChannel firing k).channel k = ((s.swapChannel firing k).channel k).shed gone ∧
      t.superseding firing k = s.superseding firing k := by
  have hnamed : (firing.filter fun i => hasChannel (t.entry i).record.channels k) =
      firing.filter fun i => hasChannel (s.entry i).record.channels k :=
    List.filter_congr fun i hi => by rw [hrecord i hi]
  have hpairs : t.firingPairs firing k = s.firingPairs firing k := by
    rw [State.firingPairs, State.firingPairs, hnamed, hchannel, Channel.namedPairs, Channel.namedPairs, Channel.shed,
      List.filter_filter]
    refine List.filter_congr fun p _ => ?_
    cases hc : (firing.filter fun i => hasChannel (s.entry i).record.channels k).contains p.tag with
    | false => rfl
    | true =>
      have hmem := (List.mem_filter.mp (List.contains_iff_mem.mp hc)).1
      rw [hgone p.tag hmem]
      rfl
  refine ⟨?_, by rw [State.superseding, hpairs, State.superseding]⟩
  rcases s.firingPairs_cases firing k with h | ⟨front, w, h⟩
  · rw [State.swapChannel_none h, State.swapChannel_none (hpairs.trans h), hchannel]
  · have hothers : (t.channel k).otherPairs (firing.filter fun i => hasChannel (s.entry i).record.channels k) =
        ((s.channel k).otherPairs (firing.filter fun i => hasChannel (s.entry i).record.channels k)).filter
          fun p => !gone p.tag := by
      rw [hchannel, Channel.otherPairs, Channel.otherPairs, Channel.shed, List.filter_filter, List.filter_filter]
      simp only [Bool.and_comm]
    rw [State.swapChannel_some h, State.swapChannel_some (hpairs.trans h), State.supersede_channels, State.supersede_channels,
      State.swappedTo, State.swappedTo, State.channel_setChannel, State.channel_setChannel, if_pos rfl, if_pos rfl, hnamed,
      hothers, hactive, State.shed_settle, Channel.start_shed]

/-- Some channels have taken their swap instructions for the firing set. -/
structure State.Swaps (s t : State) (firing : List EntryIndex) (l : List ChannelIndex) : Prop where
  keeps : Keeps [.entries, .channels] s t
  entry : ∀ i, t.entry i = { s.entry i with superseded := (t.entry i).superseded }
  other : ∀ i, i ∉ firing → t.entry i = s.entry i
  superseded : ∀ i k, hasChannel (t.entry i).superseded k =
    (hasChannel (s.entry i).superseded k || decide (k ∈ l ∧ i ∈ s.superseding firing k))
  channel : ∀ k, t.channel k = if k ∈ l then (s.swapChannel firing k).channel k else s.channel k

theorem State.Swaps.refl (s : State) : s.Swaps s firing [] :=
  ⟨Keeps.refl _ s, fun _ => rfl, fun _ _ => rfl, fun _ _ => by simp, fun _ => by simp⟩

theorem State.Swaps.isActive {l : List ChannelIndex} (h : s.Swaps t firing l) : t.isActive = s.isActive := by
  rw [State.isActive, h.keeps .line (by decide), State.isActive]

theorem State.Swaps.record {l : List ChannelIndex} (h : s.Swaps t firing l) (i : EntryIndex) :
    (t.entry i).record = (s.entry i).record := by rw [h.entry i]

theorem State.Swaps.state {l : List ChannelIndex} (h : s.Swaps t firing l) (i : EntryIndex) :
    (t.entry i).state = (s.entry i).state := by rw [h.entry i]

/-- One more channel. -/
theorem State.Swaps.snoc {l : List ChannelIndex} (h : s.Swaps t firing l) {k : ChannelIndex} (hk : k ∉ l) :
    s.Swaps (t.swapChannel firing k) firing (l ++ [k]) := by
  have hown : t.channel k = (s.channel k).shed fun _ => false := by rw [h.channel, if_neg hk, Channel.shed_none]
  obtain ⟨hchannel, hsuperseding⟩ := State.swapChannel_shed hown (fun _ _ => rfl) (fun i _ => h.record i) h.isActive
  have hentry (i : EntryIndex) := t.swapChannel_entry (firing := firing) k i
  rw [hsuperseding] at hentry
  refine ⟨h.keeps.trans (t.swapChannel_touches k), fun i => ?_, fun i hi => ?_, fun i j => ?_, fun j => ?_⟩
  · rw [hentry, h.entry i]
    split <;> rfl
  · rw [hentry, if_neg fun hmem => hi (State.superseding_firing hmem), h.other i hi]
  · have hbefore := h.superseded i j
    rw [hentry]
    by_cases hmem : i ∈ s.superseding firing k
    · rw [if_pos hmem, hasChannel_or_channelBit, hbefore]
      by_cases hj : j = k
      · subst hj
        simp [hmem]
      · simp [hj]
    · rw [if_neg hmem, hbefore]
      by_cases hj : j = k
      · subst hj
        simp [hmem]
      · simp [hj]
  · by_cases hj : j = k
    · subst hj
      rw [hchannel, Channel.shed_none, if_pos (by simp)]
    · rw [State.swapChannel_channel_other t hj, h.channel]
      simp [hj]

theorem State.Swaps.foldl (l done : List ChannelIndex) (h : s.Swaps t firing done) (hl : (done ++ l).Nodup) :
    s.Swaps (l.foldl (State.swapChannel firing) t) firing (done ++ l) := by
  induction l generalizing t done with
  | nil => rw [List.append_nil]; exact h
  | cons k l ih =>
    have hk : k ∉ done := fun hmem => (List.nodup_append.mp hl).2.2 k hmem k List.mem_cons_self rfl
    have hnext := ih (done ++ [k]) (h.snoc hk) (by rw [List.append_assoc]; exact hl)
    rw [List.append_assoc] at hnext
    exact hnext

/-- Every channel takes its instruction (R132). -/
theorem State.Swaps.all (s : State) (firing : List EntryIndex) :
    s.Swaps (allChannels.foldl (State.swapChannel firing) s) firing allChannels :=
  State.Swaps.foldl allChannels [] (.refl s) (by decide)

/-! ### Markers -/

theorem State.pulseMarkers_marker (s : State) (k j : MarkerIndex) :
    (s.pulseMarkers firing k).marker j =
      if j = k ∧ ∃ i ∈ firing, (s.entry i).record.markers.getLsbD k.val = true then Marker.pulse else s.marker j := by
  unfold State.pulseMarkers
  by_cases h : ∃ i ∈ firing, (s.entry i).record.markers.getLsbD k.val = true
  · rw [if_pos (List.any_eq_true.mpr h), State.marker_setMarker]
    exact ite_congr (propext ⟨fun hj => ⟨hj, h⟩, And.left⟩) (fun _ => rfl) fun _ => rfl
  · rw [if_neg (mt List.any_eq_true.mp h), if_neg fun hc => h hc.2]

/-- The markers that a member of the firing set names pulse, and no other (R134). -/
theorem State.pulsed_marker (s : State) (firing : List EntryIndex) (j : MarkerIndex) :
    (([0, 1] : List MarkerIndex).foldl (State.pulseMarkers firing) s).marker j =
      if ∃ i ∈ firing, (s.entry i).record.markers.getLsbD j.val = true then Marker.pulse else s.marker j := by
  have hentry (k : MarkerIndex) (i : EntryIndex) : (s.pulseMarkers firing k).entry i = s.entry i :=
    State.entry_congr (pulseMarkers_keeps firing s k .entries (by decide)) i
  rw [List.foldl_cons, List.foldl_cons, List.foldl_nil, State.pulseMarkers_marker, State.pulseMarkers_marker]
  simp only [hentry]
  have hj : j = 0 ∨ j = 1 := by revert j; decide
  rcases hj with rfl | rfl <;> simp

theorem State.pulsed_keeps (s : State) (firing : List EntryIndex) :
    Keeps [.markers] s (([0, 1] : List MarkerIndex).foldl (State.pulseMarkers firing) s) :=
  Keeps.foldl (pulseMarkers_keeps firing) s _

/-! ### Chains -/

/-- The entry as a chain arms it, before an IMMEDIATE one arrives (R136). -/
def Entry.armedAt (e : Entry) (opening : Round) : Entry :=
  { e with
    state := .armed, armRound := some opening, arrived := false, records := Vector.replicate 16 none
    recordedLead := none, channelCount := 0#8 }

/-- The HELD target of one of these entries. -/
def State.Targeted (s : State) (l : List EntryIndex) (x : EntryIndex) : Prop :=
  (s.entry x).state = .held ∧ ∃ i ∈ l, (s.entry i).record.chain = some x

/-- The entry takes its chain: the target is HELD and staged, and no entry of a lower index has taken it (R136, R138). -/
def State.TakesChain (s : State) (l : List EntryIndex) (x : EntryIndex) : Prop :=
  ∃ j, (s.entry x).record.chain = some j ∧ (s.entry j).state = .held ∧ s.fullyStaged j = true ∧
    ∀ i ∈ l, i < x → (s.entry i).record.chain ≠ some j

/-- These entries, in ascending order, have taken their chains or left them (R136 to R138). -/
structure State.Chains (s t : State) (opening : Round) (l : List EntryIndex) : Prop where
  closes : s.Closes t
  armed : ∀ x, s.Targeted l x → s.fullyStaged x = true → t.entry x = (s.entry x).armedAt opening
  closed : ∀ x, s.Targeted l x → s.fullyStaged x = false →
    t.entry x = { s.entry x with state := .done, outcome := some .abandoned, reason := some .notStaged }
  takes : ∀ x ∈ l, s.TakesChain l x → t.entry x = { s.entry x with chainTaken := true }
  left : ∀ x, ¬s.Targeted l x → (x ∈ l → ¬s.TakesChain l x) → t.entry x = s.entry x

/-- One chain by its outcomes. -/
theorem State.takeChain_cases (opening : Round) (s : State) (i : EntryIndex) :
    (s.takeChain opening i = s ∧ ∀ j, (s.entry i).record.chain = some j → (s.entry j).state ≠ .held) ∨
      (∃ j, (s.entry i).record.chain = some j ∧ (s.entry j).state = .held ∧ s.fullyStaged j = true ∧
        s.takeChain opening i = (s.setEntry i { s.entry i with chainTaken := true }).startArmed j opening) ∨
      ∃ j, (s.entry i).record.chain = some j ∧ (s.entry j).state = .held ∧ s.fullyStaged j = false ∧
        s.takeChain opening i = s.closeEntry j .abandoned (some .notStaged) := by
  cases hchain : (s.entry i).record.chain with
  | none => exact .inl ⟨by simp only [State.takeChain, hchain], fun j h => nomatch h⟩
  | some j =>
    by_cases hheld : (s.entry j).state = .held
    · cases hstaged : s.fullyStaged j with
      | true => exact .inr (.inl ⟨j, rfl, hheld, hstaged, by simp only [State.takeChain, hchain, hheld, hstaged, if_true]⟩)
      | false =>
        refine .inr (.inr ⟨j, rfl, hheld, hstaged, ?_⟩)
        simp only [State.takeChain, hchain, hheld, hstaged, if_true, Bool.false_eq_true, if_false]
    · refine .inl ⟨by simp only [State.takeChain, hchain, if_neg hheld], fun k hk => ?_⟩
      cases hk
      exact hheld

theorem Entry.ne_of_state {x y : EntryIndex} {a b : EntryState} (hx : (s.entry x).state = a) (hy : (s.entry y).state = b)
    (hab : a ≠ b) : x ≠ y := fun h => hab (by rw [← hx, h, hy])

theorem State.targeted_single (s : State) (i x : EntryIndex) :
    s.Targeted [i] x ↔ (s.entry x).state = .held ∧ (s.entry i).record.chain = some x := by
  simp [State.Targeted]

/-- An index of lower rank than none of the list meets no rival. -/
theorem State.takesChain_of_least {l : List EntryIndex} {x : EntryIndex} (h : ∀ i ∈ l, ¬i < x) :
    s.TakesChain l x ↔ ∃ j, (s.entry x).record.chain = some j ∧ (s.entry j).state = .held ∧ s.fullyStaged j = true :=
  ⟨fun ⟨j, hchain, hheld, hstaged, _⟩ => ⟨j, hchain, hheld, hstaged⟩,
    fun ⟨j, hchain, hheld, hstaged⟩ => ⟨j, hchain, hheld, hstaged, fun i hi hlt => absurd hlt (h i hi)⟩⟩

/-- One entry takes its chain or leaves it. -/
theorem State.Chains.single (opening : Round) (s : State) {i : EntryIndex} (hi : (s.entry i).state = .complete) :
    s.Chains (s.takeChain opening i) opening [i] := by
  have hleast : ∀ x ∈ [i], s.TakesChain [i] x ↔
      ∃ j, (s.entry x).record.chain = some j ∧ (s.entry j).state = .held ∧ s.fullyStaged j = true := fun x hx =>
    State.takesChain_of_least fun y hy => by
      rw [List.mem_singleton.mp hx, List.mem_singleton.mp hy]
      exact Fin.lt_irrefl i
  rcases s.takeChain_cases opening i with ⟨h, hnot⟩ | ⟨j, hchain, hheld, hstaged, h⟩ | ⟨j, hchain, hheld, hstaged, h⟩
  · have hnone (x : EntryIndex) : ¬s.Targeted [i] x := fun hx => by
      rw [State.targeted_single] at hx
      exact hnot x hx.2 hx.1
    refine ⟨?_, fun x hx => absurd hx (hnone x), fun x hx => absurd hx (hnone x), fun x hx htakes => ?_, fun x _ _ => by rw [h]⟩
    · rw [h]
      exact .refl s
    · obtain ⟨j, hchain, hheld, _⟩ := (hleast x hx).mp htakes
      rw [List.mem_singleton.mp hx] at hchain
      exact absurd hheld (hnot j hchain)
  · have hij : i ≠ j := Entry.ne_of_state hi hheld (by decide)
    have htarget (x : EntryIndex) (hx : s.Targeted [i] x) : x = j := by
      have hsame := ((s.targeted_single i x).mp hx).2
      rw [hchain, Option.some.injEq] at hsame
      exact hsame.symm
    have hentry (x : EntryIndex) : (s.takeChain opening i).entry x =
        if x = j then (s.entry j).armedAt opening else if x = i then { s.entry i with chainTaken := true } else s.entry x := by
      rw [h, State.startArmed, State.entry_setEntry, State.entry_setEntry, State.entry_setEntry, if_neg hij.symm]
      rfl
    refine ⟨?_, fun x hx _ => ?_, fun x hx hnot => ?_, fun x hx _ => ?_, fun x hx hnot => ?_⟩
    · rw [h]
      have hmark := State.Closes.setEntry s i { s.entry i with chainTaken := true } (by exact Iff.rfl)
      refine hmark.trans (.setEntry _ j _ ?_)
      have hkept : (s.setEntry i { s.entry i with chainTaken := true }).entry j = s.entry j := by
        rw [State.entry_setEntry, if_neg hij.symm]
      rw [hkept, hheld]
      exact iff_of_false (fun hc => nomatch hc) (by decide)
    · rw [hentry, htarget x hx, if_pos rfl]
    · rw [htarget x hx, hstaged] at hnot
      cases hnot
    · rw [List.mem_singleton.mp hx, hentry, if_neg hij, if_pos rfl]
    · have hxj : x ≠ j := fun hj => hx ((s.targeted_single i x).mpr (by rw [hj]; exact ⟨hheld, hchain⟩))
      have hxi : x ≠ i := fun hi => hnot (List.mem_singleton.mpr hi)
        ((hleast x (List.mem_singleton.mpr hi)).mpr (by rw [hi]; exact ⟨j, hchain, hheld, hstaged⟩))
      rw [hentry, if_neg hxj, if_neg hxi]
  · have htarget (x : EntryIndex) (hx : s.Targeted [i] x) : x = j := by
      have hsame := ((s.targeted_single i x).mp hx).2
      rw [hchain, Option.some.injEq] at hsame
      exact hsame.symm
    refine ⟨?_, fun x hx hyes => ?_, fun x hx _ => ?_, fun x hx htakes => ?_, fun x hx _ => ?_⟩
    · rw [h]
      exact .closeEntry s j _ _ (by rw [hheld]; decide)
    · rw [htarget x hx, hstaged] at hyes
      cases hyes
    · rw [h, State.closeEntry_entry, htarget x hx, if_pos rfl]
    · obtain ⟨y, hy, _, hyes⟩ := (hleast x hx).mp htakes
      rw [List.mem_singleton.mp hx, hchain, Option.some.injEq] at hy
      rw [← hy, hstaged] at hyes
      cases hyes
    · have hxj : x ≠ j := fun hj => hx ((s.targeted_single i x).mpr (by rw [hj]; exact ⟨hheld, hchain⟩))
      rw [h, State.closeEntry_entry, if_neg hxj]

section

variable {opening : Round} {l : List EntryIndex}

/-- The cases of an entry. -/
theorem State.Chains.cases (h : s.Chains t opening l) (x : EntryIndex) :
    (s.Targeted l x ∧ (t.entry x).state ≠ .held ∧ (t.entry x).record = (s.entry x).record) ∨
      (¬s.Targeted l x ∧ (t.entry x).state = (s.entry x).state ∧ (t.entry x).record = (s.entry x).record) := by
  by_cases htarget : s.Targeted l x
  · refine .inl ⟨htarget, ?_⟩
    cases hstaged : s.fullyStaged x with
    | true => rw [h.armed x htarget hstaged]; exact ⟨by simp [Entry.armedAt], rfl⟩
    | false => rw [h.closed x htarget hstaged]; exact ⟨by simp, rfl⟩
  · refine .inr ⟨htarget, ?_⟩
    by_cases htakes : x ∈ l ∧ s.TakesChain l x
    · rw [h.takes x htakes.1 htakes.2]
      exact ⟨rfl, rfl⟩
    · rw [h.left x htarget fun hx ht => htakes ⟨hx, ht⟩]
      exact ⟨rfl, rfl⟩

theorem State.Chains.record (h : s.Chains t opening l) (x : EntryIndex) : (t.entry x).record = (s.entry x).record :=
  (h.cases x).elim (·.2.2) (·.2.2)

theorem State.Chains.held (h : s.Chains t opening l) (x : EntryIndex) :
    (t.entry x).state = .held ↔ (s.entry x).state = .held ∧ ¬s.Targeted l x := by
  rcases h.cases x with ⟨htarget, hnot, _⟩ | ⟨htarget, hstate, _⟩
  · exact ⟨fun hx => absurd hx hnot, fun hx => absurd htarget hx.2⟩
  · rw [hstate]
    exact ⟨fun hx => ⟨hx, htarget⟩, And.left⟩

/-- Pairs of entries that do not close stay. -/
theorem State.Closes.fullyStaged (h : s.Closes t) {x : EntryIndex} (hrecord : (t.entry x).record = (s.entry x).record)
    (hnot : (t.entry x).state ≠ .done) : t.fullyStaged x = s.fullyStaged x := by
  have hnew : s.newly t x = false := by
    rw [← Bool.not_eq_true, State.newly_iff]
    exact fun hc => hnot hc.2
  have hstaged (k : ChannelIndex) : (t.channel k).isStaged x = (s.channel k).isStaged x := by
    rw [h.channel, Bool.eq_iff_iff, Channel.isStaged_iff, Channel.isStaged_iff]
    simp only [Channel.shed, List.mem_filter]
    constructor
    · rintro ⟨p, ⟨hp, _⟩, rfl⟩
      exact ⟨p, hp, rfl⟩
    · rintro ⟨p, hp, rfl⟩
      exact ⟨p, ⟨hp, by rw [hnew]; rfl⟩, rfl⟩
  simp only [State.fullyStaged, hrecord, hstaged]

theorem State.Chains.staged (h : s.Chains t opening l) {x : EntryIndex} (hx : (t.entry x).state = .held) :
    t.fullyStaged x = s.fullyStaged x :=
  h.closes.fullyStaged (h.record x) (by rw [hx]; decide)

/-- A chain, and those of higher indices behind it. -/
theorem State.Chains.cons {i : EntryIndex} (h : s.Chains u opening [i]) (h' : u.Chains t opening l)
    (hcomplete : ∀ x ∈ i :: l, (s.entry x).state = .complete) (hbelow : ∀ x ∈ l, i < x) : s.Chains t opening (i :: l) := by
  have hnotHeld {x : EntryIndex} (hx : x ∈ i :: l) : ¬(s.entry x).state = .held := by rw [hcomplete x hx]; decide
  have hbehind {x : EntryIndex} (hx : s.Targeted [i] x) : t.entry x = u.entry x := by
    have hgone : ¬(u.entry x).state = .held := fun hc => ((h.held x).mp hc).2 hx
    exact h'.left x (fun hc => hgone hc.1) fun hmem => absurd hx.1 (hnotHeld (List.mem_cons_of_mem i hmem))
  have hahead {x : EntryIndex} (hheld : (s.entry x).state = .held) (hx : ¬s.Targeted [i] x) : u.entry x = s.entry x :=
    h.left x hx fun hmem => absurd hheld (hnotHeld (by rw [List.mem_singleton.mp hmem]; exact List.mem_cons_self))
  have htargeted {x : EntryIndex} : s.Targeted (i :: l) x ↔ s.Targeted [i] x ∨ (¬s.Targeted [i] x ∧ u.Targeted l x) := by
    simp only [State.Targeted, h.held, h.record, List.mem_cons, List.not_mem_nil, or_false, exists_eq_or_imp,
      exists_eq_left]
    grind
  have hleast : s.TakesChain (i :: l) i ↔ s.TakesChain [i] i := by
    rw [State.takesChain_of_least fun x hx => ?_, State.takesChain_of_least fun x hx => ?_]
    · rw [List.mem_singleton.mp hx]
      exact Fin.lt_irrefl i
    · rcases List.mem_cons.mp hx with rfl | hx
      · exact Fin.lt_irrefl x
      · exact Nat.not_lt_of_gt (hbelow x hx)
  have hlater {x : EntryIndex} (hx : x ∈ l) : s.TakesChain (i :: l) x ↔ u.TakesChain l x := by
    constructor
    · rintro ⟨j, hchain, hheld, hstaged, hfirst⟩
      have hheld' : (u.entry j).state = .held := (h.held j).mpr ⟨hheld, fun hc =>
        hfirst i List.mem_cons_self (hbelow x hx) ((s.targeted_single i j).mp hc).2⟩
      refine ⟨j, by rw [h.record, hchain], hheld', by rw [h.staged hheld', hstaged], fun y hy hlt => ?_⟩
      rw [h.record]
      exact hfirst y (List.mem_cons_of_mem i hy) hlt
    · rintro ⟨j, hchain, hheld, hstaged, hfirst⟩
      obtain ⟨hheld', hfree⟩ := (h.held j).mp hheld
      refine ⟨j, by rw [← h.record, hchain], hheld', by rw [← h.staged hheld, hstaged], fun y hy hlt => ?_⟩
      rcases List.mem_cons.mp hy with rfl | hy
      · exact fun hc => hfree ((s.targeted_single y j).mpr ⟨hheld', hc⟩)
      · rw [← h.record]
        exact hfirst y hy hlt
  refine ⟨h.closes.trans h'.closes, fun x hx hstaged => ?_, fun x hx hstaged => ?_, fun x hx htakes => ?_, fun x hx hnot => ?_⟩
  · rcases htargeted.mp hx with hfirst | ⟨hnot, hrest⟩
    · rw [hbehind hfirst, h.armed x hfirst hstaged]
    · rw [h'.armed x hrest (by rw [h.staged hrest.1, hstaged]), hahead hx.1 hnot]
  · rcases htargeted.mp hx with hfirst | ⟨hnot, hrest⟩
    · rw [hbehind hfirst, h.closed x hfirst hstaged]
    · rw [h'.closed x hrest (by rw [h.staged hrest.1, hstaged]), hahead hx.1 hnot]
  · have hnot : ¬s.Targeted [i] x := fun hc => hnotHeld hx hc.1
    have hnotHeld' : ¬(u.entry x).state = .held := fun hc => hnotHeld hx ((h.held x).mp hc).1
    rcases List.mem_cons.mp hx with rfl | hmem
    · rw [h'.left x (fun hc => hnotHeld' hc.1) fun hmem => absurd (hbelow x hmem) (Fin.lt_irrefl x),
        h.takes x (List.mem_singleton.mpr rfl) (hleast.mp htakes)]
    · rw [h'.takes x hmem ((hlater hmem).mp htakes), h.left x hnot fun hsingle => ?_]
      rw [List.mem_singleton.mp hsingle] at hmem
      exact absurd (hbelow i hmem) (Fin.lt_irrefl i)
  · rw [htargeted, not_or, not_and] at hx
    rw [h'.left x (hx.2 hx.1) fun hmem => fun hc => hnot (List.mem_cons_of_mem i hmem) ((hlater hmem).mpr hc),
      h.left x hx.1 fun hmem => ?_]
    rw [List.mem_singleton.mp hmem] at hnot ⊢
    exact fun hc => hnot List.mem_cons_self (hleast.mpr hc)

/-- The chains of a firing set (R136 to R138). -/
theorem State.Chains.foldl (opening : Round) (l : List EntryIndex) (s : State) (hl : l.Pairwise (· < ·))
    (hcomplete : ∀ x ∈ l, (s.entry x).state = .complete) :
    s.Chains (l.foldl (State.takeChain opening) s) opening l := by
  induction l generalizing s with
  | nil =>
    refine ⟨.refl s, fun x hx => ?_, fun x hx => ?_, fun x hx => (nomatch hx), fun _ _ _ => rfl⟩
    all_goals
      obtain ⟨_, i, hi, _⟩ := hx
      cases hi
  | cons i l ih =>
    obtain ⟨hbelow, hl⟩ := List.pairwise_cons.mp hl
    have hfirst := State.Chains.single opening s (hcomplete i List.mem_cons_self)
    refine hfirst.cons (ih _ hl fun x hx => ?_) hcomplete hbelow
    have hx' := hcomplete x (List.mem_cons_of_mem i hx)
    have hnot : ¬s.Targeted [i] x := fun hc => by have hheld := hc.1; rw [hx'] at hheld; cases hheld
    rcases hfirst.cases x with ⟨htarget, _⟩ | ⟨_, hstate, _⟩
    · exact absurd htarget hnot
    · rw [hstate, hx']

end

end Sys2Proof.Machine
end

section
/-!
PROOFS about the rendezvous table's reaction to a boundary, stage by stage, and whole (R93, R119, R130 to R139).
-/

namespace Sys2Proof.Machine

-- One lemma after another: side by side, the evaluations of `decide` would each hold a thread.
set_option Elab.async false

variable {s t u : State} {firing : List EntryIndex}

/-! ### The closes of a firing set -/

theorem State.Closes.closeFired (opening : Round) (s : State) (i : EntryIndex) (hnot : (s.entry i).state ≠ .done) :
    s.Closes (s.closeFired opening i) := by
  have hmark := State.Closes.setEntry s i { s.entry i with actualFire := some opening } (by exact Iff.rfl)
  refine hmark.trans (.closeEntry _ i _ _ ?_)
  rw [State.entry_setEntry, if_pos rfl]
  exact hnot

/-- Fired entries close with their outcome and actual fire round, and the others stand as they stood (R131). -/
theorem State.foldl_closeFired (opening : Round) (l : List EntryIndex) (hl : l.Nodup) (s : State)
    (hnot : ∀ i ∈ l, (s.entry i).state ≠ .done) :
    s.Closes (l.foldl (State.closeFired opening) s) ∧ ∀ j, (l.foldl (State.closeFired opening) s).entry j =
      if j ∈ l then
        { s.entry j with
          state := .done, outcome := some (if (s.entry j).late = true then .firedLate else .fired), reason := none
          actualFire := some opening }
      else s.entry j := by
  induction l generalizing s with
  | nil => exact ⟨.refl s, fun j => by simp⟩
  | cons i l ih =>
    obtain ⟨hi, hl⟩ := List.nodup_cons.mp hl
    have hother {j : EntryIndex} (hj : j ∈ l) : (s.closeFired opening i).entry j = s.entry j := by
      rw [State.closeFired_entry, if_neg fun h => hi (by rw [← h]; exact hj)]
    obtain ⟨hcloses, hentry⟩ := ih hl (s.closeFired opening i) fun j hj => by
      rw [hother hj]
      exact hnot j (List.mem_cons_of_mem i hj)
    rw [List.foldl_cons]
    refine ⟨(State.Closes.closeFired opening s i (hnot i List.mem_cons_self)).trans hcloses, fun j => ?_⟩
    rw [hentry]
    by_cases hj : j ∈ l
    · rw [if_pos hj, if_pos (List.mem_cons_of_mem i hj), hother hj]
    · rw [if_neg hj, State.closeFired_entry]
      by_cases hji : j = i
      · rw [if_pos hji, hji, if_pos List.mem_cons_self]
      · rw [if_neg hji, if_neg (by simp [hj, hji])]

/-! ### The stages, one behind the other -/

/-- The firing set of a boundary (R130). -/
def State.firingAt (s : State) (opening : Round) : List EntryIndex := (s.expireDue opening).firingSet opening

/-- The state behind expiry, swaps and marker pulses. -/
def State.readied (s : State) (opening : Round) : State := (s.expireDue opening).swapped (s.firingAt opening)

/-- The state behind the chains. -/
def State.chained (s : State) (opening : Round) : State :=
  (s.firingAt opening).foldl (State.takeChain opening) (s.readied opening)

/-- The state behind the arrivals of the chains' IMMEDIATE targets. -/
def State.chainsArrived (s : State) (opening : Round) : State := State.arriveChained (s.readied opening) (s.chained opening)

/-- The state behind the closes. -/
def State.fired (s : State) (opening : Round) : State :=
  (s.firingAt opening).foldl (State.closeFired opening) (s.chainsArrived opening)

theorem State.tableBoundary_eq (s : State) (opening : Round) :
    s.tableBoundary opening = State.appendClosed s (s.fired opening) := rfl

section

variable {opening : Round}

theorem State.mem_firingAt (hsynced : s.line.state.synced = true) (i : EntryIndex) :
    i ∈ s.firingAt opening ↔ (s.entry i).state = .complete ∧ (s.entry i).fireRound = some opening := by
  have hline : (s.expireDue opening).line = s.line := expireDue_keeps s opening .line (by decide)
  rw [State.firingAt, State.firingSet, hline, if_pos hsynced, List.mem_filter, decide_eq_true_iff, State.expireDue_entry]
  split
  · next h =>
    simp [h.1]
  · simp [mem_allSixteen]

/-- Two ascending rows of the same entries are one row. -/
theorem eq_of_ascending {l l' : List EntryIndex} (h : l.Pairwise (· < ·)) (h' : l'.Pairwise (· < ·))
    (hmem : ∀ i, i ∈ l ↔ i ∈ l') : l = l' :=
  List.Perm.eq_of_pairwise (fun _ _ _ _ hab hba => absurd hba (Fin.lt_asymm hab)) h h'
    ((List.perm_ext_iff_of_nodup (h.imp Fin.ne_of_lt) (h'.imp Fin.ne_of_lt)).mpr hmem)

theorem State.firingAt_pairwise (s : State) (opening : Round) : (s.firingAt opening).Pairwise (· < ·) := by
  unfold State.firingAt State.firingSet
  split
  · exact allSixteen_filter_pairwise _
  · exact .nil

theorem State.firingAt_complete {i : EntryIndex} (h : i ∈ s.firingAt opening) : (s.entry i).state = .complete := by
  have hcomplete := State.firingSet_complete h
  rw [State.expireDue_entry] at hcomplete
  split at hcomplete
  · cases hcomplete
  · exact hcomplete

/-- The swaps, seen from the state before the expiry. -/
theorem State.readied_swaps (s : State) (opening : Round) :
    (s.expireDue opening).Swaps (allChannels.foldl (State.swapChannel (s.firingAt opening)) (s.expireDue opening))
      (s.firingAt opening) allChannels :=
  .all _ _

theorem State.readied_entry (s : State) (opening : Round) (i : EntryIndex) :
    (s.readied opening).entry i =
      (allChannels.foldl (State.swapChannel (s.firingAt opening)) (s.expireDue opening)).entry i := by
  have hkeeps := State.pulsed_keeps (allChannels.foldl (State.swapChannel (s.firingAt opening)) (s.expireDue opening))
    (s.firingAt opening)
  rw [State.readied, State.swapped]
  generalize allChannels.foldl (State.swapChannel (s.firingAt opening)) (s.expireDue opening) = w at hkeeps ⊢
  exact State.entry_congr (hkeeps .entries (by decide)) i

/-- An entry that neither expires nor fires is as it was. -/
theorem State.readied_same {i : EntryIndex} (hfires : i ∉ s.firingAt opening)
    (hexpires : ¬((s.entry i).state = .armed ∧ (s.entry i).deadlineRound = some opening)) :
    (s.readied opening).entry i = s.entry i := by
  rw [State.readied_entry, (s.readied_swaps opening).other i hfires, State.expireDue_entry, if_neg hexpires]

theorem State.readied_expires {i : EntryIndex} (h : (s.entry i).state = .armed ∧ (s.entry i).deadlineRound = some opening) :
    (s.readied opening).entry i = { s.entry i with state := .done, outcome := some .expired, reason := none } := by
  have hnot : i ∉ s.firingAt opening := fun hmem => by
    have hcomplete := State.firingAt_complete hmem
    rw [h.1] at hcomplete
    cases hcomplete
  rw [State.readied_entry, (s.readied_swaps opening).other i hnot, State.expireDue_entry, if_pos h]

theorem State.readied_fires {i : EntryIndex} (h : i ∈ s.firingAt opening) :
    (s.readied opening).entry i = { s.entry i with superseded := ((s.readied opening).entry i).superseded } := by
  have hcomplete := State.firingAt_complete h
  have hnot : ¬((s.entry i).state = .armed ∧ (s.entry i).deadlineRound = some opening) := fun hc => by
    rw [hcomplete] at hc
    cases hc.1
  have hswapped := (s.readied_swaps opening).entry i
  rw [← State.readied_entry, State.expireDue_entry, if_neg hnot] at hswapped
  exact hswapped

theorem State.readied_record (s : State) (opening : Round) (i : EntryIndex) :
    ((s.readied opening).entry i).record = (s.entry i).record := by
  rw [State.readied_entry, (s.readied_swaps opening).record, State.expireDue_entry]
  split <;> rfl

theorem State.readied_held (s : State) (opening : Round) (i : EntryIndex) :
    ((s.readied opening).entry i).state = .held ↔ (s.entry i).state = .held := by
  rw [State.readied_entry, (s.readied_swaps opening).state, State.expireDue_entry]
  split
  · next h => simp [h.1]
  · exact Iff.rfl

theorem State.expireDue_newly_firing {i : EntryIndex} (h : i ∈ s.firingAt opening) :
    s.newly (s.expireDue opening) i = false := by
  have hcomplete := State.firingSet_complete h
  rw [← Bool.not_eq_true, State.newly_iff]
  intro hc
  rw [hcomplete] at hc
  cases hc.2

/-- The swap of a channel is that of the state before the expiry, without the pairs of the entries that expire. -/
theorem State.readied_swap (s : State) (opening : Round) (k : ChannelIndex) :
    ((s.expireDue opening).swapChannel (s.firingAt opening) k).channel k =
        ((s.swapChannel (s.firingAt opening) k).channel k).shed (s.newly (s.expireDue opening)) ∧
      (s.expireDue opening).superseding (s.firingAt opening) k = s.superseding (s.firingAt opening) k := by
  refine State.swapChannel_shed ((State.Closes.expireDue s opening).channel k) (fun i hi => State.expireDue_newly_firing hi)
    (fun i _ => ?_) ?_
  · rw [State.expireDue_entry]
    split <;> rfl
  · rw [State.isActive, expireDue_keeps s opening .line (by decide), State.isActive]

theorem State.readied_channel (s : State) (opening : Round) (k : ChannelIndex) :
    (s.readied opening).channel k =
      ((s.swapChannel (s.firingAt opening) k).channel k).shed (s.newly (s.expireDue opening)) := by
  have hkeeps := State.pulsed_keeps (allChannels.foldl (State.swapChannel (s.firingAt opening)) (s.expireDue opening))
    (s.firingAt opening)
  have hswaps := (s.readied_swaps opening).channel k
  rw [if_pos (mem_allChannels k), (s.readied_swap opening k).1] at hswaps
  rw [State.readied, State.swapped, ← hswaps]
  generalize allChannels.foldl (State.swapChannel (s.firingAt opening)) (s.expireDue opening) = w at hkeeps ⊢
  exact State.channel_congr (hkeeps .channels (by decide)) k

theorem State.readied_superseded {i : EntryIndex} (h : i ∈ s.firingAt opening) (k : ChannelIndex) :
    hasChannel ((s.readied opening).entry i).superseded k =
      hasChannel ((s.swapChannel (s.firingAt opening) k).entry i).superseded k := by
  have hcomplete := State.firingAt_complete h
  have hexpired : (s.expireDue opening).entry i = s.entry i := by
    rw [State.expireDue_entry, if_neg fun hc => by rw [hcomplete] at hc; cases hc.1]
  rw [State.readied_entry, (s.readied_swaps opening).superseded, (s.readied_swap opening k).2, hexpired, State.swapChannel_entry]
  split
  · next hmem => simp [hasChannel_or_channelBit, hmem, mem_allChannels]
  · next hmem => simp [hmem]

/-- A swap leaves the pairs of other entries than those of the firing set on its channel (R160). -/
theorem State.swapChannel_isStaged {i : EntryIndex} (h : i ∉ firing) (s : State) (k : ChannelIndex) :
    ((s.swapChannel firing k).channel k).isStaged i = (s.channel k).isStaged i := by
  rcases s.firingPairs_cases firing k with hnone | ⟨front, w, hpairs⟩
  · rw [State.swapChannel_none hnone]
  · rw [State.swapChannel_some hpairs, State.supersede_channels, State.swappedTo, State.channel_setChannel, if_pos rfl,
      Bool.eq_iff_iff, Channel.isStaged_iff, Channel.isStaged_iff, Channel.settle_staged, Channel.start_staged,
      Channel.otherPairs]
    simp only [List.mem_filter]
    constructor
    · rintro ⟨p, ⟨hp, _⟩, rfl⟩
      exact ⟨p, hp, rfl⟩
    · rintro ⟨p, hp, rfl⟩
      refine ⟨p, ⟨hp, ?_⟩, rfl⟩
      rw [Bool.not_eq_true', ← Bool.not_eq_true, List.contains_iff_mem]
      exact fun hc => h ((List.mem_filter.mp hc).1)

theorem Channel.shed_isStaged {gone : EntryIndex → Bool} {i : EntryIndex} (h : gone i = false) (c : Channel) :
    (c.shed gone).isStaged i = c.isStaged i := by
  rw [Bool.eq_iff_iff, Channel.isStaged_iff, Channel.isStaged_iff]
  simp only [Channel.shed, List.mem_filter]
  constructor
  · rintro ⟨p, ⟨hp, _⟩, rfl⟩
    exact ⟨p, hp, rfl⟩
  · rintro ⟨p, hp, rfl⟩
    exact ⟨p, ⟨hp, by rw [h]; rfl⟩, rfl⟩

theorem State.readied_staged {i : EntryIndex} (h : (s.entry i).state = .held) :
    (s.readied opening).fullyStaged i = s.fullyStaged i := by
  have hfires : i ∉ s.firingAt opening := fun hmem => by
    have hcomplete := State.firingAt_complete hmem
    rw [h] at hcomplete
    cases hcomplete
  have hnew : s.newly (s.expireDue opening) i = false := by
    rw [← Bool.not_eq_true, State.newly_iff, State.expireDue_entry, if_neg fun hc => by rw [h] at hc; cases hc.1]
    exact fun hc => hc.1 hc.2
  have hstaged (k : ChannelIndex) : ((s.readied opening).channel k).isStaged i = (s.channel k).isStaged i := by
    rw [State.readied_channel, Channel.shed_isStaged hnew, State.swapChannel_isStaged hfires]
  simp only [State.fullyStaged, State.readied_record, hstaged]

/-- Behind expiry and swaps the markers pulse. -/
theorem State.readied_pulsed (s : State) (opening : Round) :
    ∃ w, (s.expireDue opening).Swaps w (s.firingAt opening) allChannels ∧
      s.readied opening = ([0, 1] : List MarkerIndex).foldl (State.pulseMarkers (s.firingAt opening)) w :=
  ⟨_, s.readied_swaps opening, rfl⟩

theorem State.readied_keeps (s : State) (opening : Round) :
    Keeps [.entries, .frames, .channels, .markers] s (s.readied opening) := by
  have hexpire := (expireDue_keeps s opening).mono [.entries, .frames, .channels, .markers]
  obtain ⟨w, hswaps, hready⟩ := s.readied_pulsed opening
  rw [hready]
  exact (hexpire.trans (hswaps.keeps.mono _)).trans ((w.pulsed_keeps _).mono _)

theorem State.readied_frames (s : State) (opening : Round) : (s.readied opening).frames = (s.expireDue opening).frames := by
  obtain ⟨w, hswaps, hready⟩ := s.readied_pulsed opening
  rw [hready, w.pulsed_keeps _ .frames (by decide), hswaps.keeps .frames (by decide)]

theorem State.readied_marker (s : State) (opening : Round) (k : MarkerIndex) :
    (s.readied opening).marker k =
      if ∃ i ∈ s.firingAt opening, (s.entry i).record.markers.getLsbD k.val = true then Marker.pulse else s.marker k := by
  obtain ⟨w, hswaps, hready⟩ := s.readied_pulsed opening
  have hmarkers : w.markers = s.markers :=
    (hswaps.keeps .markers (by decide)).trans (expireDue_keeps s opening .markers (by decide))
  have hmarker : w.marker k = s.marker k := by rw [State.marker, hmarkers, State.marker]
  have hrecord (i : EntryIndex) : (w.entry i).record = (s.entry i).record := by
    rw [hswaps.record, State.expireDue_entry]
    split <;> rfl
  rw [hready, State.pulsed_marker, hmarker]
  simp only [hrecord]

/-! ### The entries behind chains, arrivals and closes -/

theorem State.firingAt_readied {i : EntryIndex} (h : i ∈ s.firingAt opening) : ((s.readied opening).entry i).state = .complete := by
  have hcomplete := State.firingAt_complete h
  rw [State.readied_fires h]
  exact hcomplete

theorem State.chained_chains (s : State) (opening : Round) :
    (s.readied opening).Chains (s.chained opening) opening (s.firingAt opening) :=
  .foldl opening (s.firingAt opening) (s.readied opening) (s.firingAt_pairwise opening) fun _ h => State.firingAt_readied h

theorem State.readied_targeted (s : State) (opening : Round) (x : EntryIndex) :
    (s.readied opening).Targeted (s.firingAt opening) x ↔ s.Targeted (s.firingAt opening) x := by
  simp only [State.Targeted, State.readied_held, State.readied_record]

theorem State.readied_takesChain (s : State) (opening : Round) (x : EntryIndex) :
    (s.readied opening).TakesChain (s.firingAt opening) x ↔ s.TakesChain (s.firingAt opening) x := by
  simp only [State.TakesChain, State.readied_held, State.readied_record]
  refine exists_congr fun j => and_congr_right fun _ => and_congr_right fun hheld => ?_
  rw [State.readied_staged hheld]

/-- A HELD entry neither fires nor expires. -/
theorem State.readied_of_held {x : EntryIndex} (h : (s.entry x).state = .held) : (s.readied opening).entry x = s.entry x := by
  refine State.readied_same (fun hmem => ?_) fun hc => ?_
  · have hcomplete := State.firingAt_complete hmem
    rw [h] at hcomplete
    cases hcomplete
  · rw [h] at hc
    cases hc.1

theorem State.chained_keeps (s : State) (opening : Round) :
    Keeps [.entries, .frames, .channels, .markers] s (s.chained opening) := by
  have hchains : Keeps [.entries, .frames, .channels, .markers] (s.readied opening) (s.chained opening) :=
    Keeps.foldl (fun s i => (takeChain_keeps opening s i).mono [.entries, .frames, .channels, .markers]) (s.readied opening)
      (s.firingAt opening)
  exact (s.readied_keeps opening).trans hchains

theorem State.chained_participates (s : State) (opening : Round) (e : Entry) :
    (s.chained opening).participates e = s.participates e := by
  rw [State.participates, s.chained_keeps opening .timer (by decide), State.participates]

/-- The targets that arrive: the IMMEDIATE ones that a chain has armed, at participants (R104, R136). -/
theorem State.chained_arrives (s : State) (opening : Round) (x : EntryIndex) :
    (((s.readied opening).entry x).state = .held ∧ (s.chained opening).arrivesAtOnce x = true) ↔
      s.Targeted (s.firingAt opening) x ∧ s.fullyStaged x = true ∧ (s.entry x).record.condition = .immediate ∧
        s.participates (s.entry x) = true := by
  have hchains := s.chained_chains opening
  have harrives : (s.chained opening).arrivesAtOnce x = true ↔ ((s.chained opening).entry x).record.condition = .immediate ∧
      ((s.chained opening).entry x).state = .armed ∧ s.participates ((s.chained opening).entry x) = true ∧
        ((s.chained opening).entry x).arrived = false := by
    simp [State.arrivesAtOnce, State.awaits, State.chained_participates, and_assoc]
  rw [State.readied_held, harrives]
  by_cases htarget : s.Targeted (s.firingAt opening) x
  · have htarget' := (s.readied_targeted opening x).mpr htarget
    have hheld := htarget.1
    have hstaged' := State.readied_staged (opening := opening) hheld
    cases hstaged : s.fullyStaged x with
    | true =>
      rw [hchains.armed x htarget' (hstaged'.trans hstaged), State.readied_of_held hheld]
      simp [Entry.armedAt, hheld, htarget, State.participates]
    | false =>
      rw [hchains.closed x htarget' (hstaged'.trans hstaged)]
      simp
  · refine iff_of_false (fun hc => ?_) fun hc => htarget hc.1
    have hheld := (hchains.held x).mpr ⟨(s.readied_held opening x).mpr hc.1, fun h => htarget ((s.readied_targeted opening x).mp h)⟩
    rw [hheld] at hc
    cases hc.2.2.1

theorem State.chainsArrived_other {x : EntryIndex}
    (h : ¬(s.Targeted (s.firingAt opening) x ∧ s.fullyStaged x = true)) :
    (s.chainsArrived opening).entry x = (s.chained opening).entry x := by
  rw [State.chainsArrived, State.arriveChained_entry, if_neg]
  rw [State.chained_arrives]
  exact fun hc => h ⟨hc.1, hc.2.1⟩

theorem State.firingAt_not_targeted {i : EntryIndex} (h : i ∈ s.firingAt opening) : ¬s.Targeted (s.firingAt opening) i := by
  intro hc
  have hcomplete := State.firingAt_complete h
  rw [hc.1] at hcomplete
  cases hcomplete

theorem State.chainsArrived_fires {i : EntryIndex} (h : i ∈ s.firingAt opening) :
    (s.chainsArrived opening).entry i =
      { s.entry i with
        superseded := ((s.readied opening).entry i).superseded
        chainTaken := ((s.chainsArrived opening).entry i).chainTaken } ∧
      (s.TakesChain (s.firingAt opening) i → ((s.chainsArrived opening).entry i).chainTaken = true) ∧
      (¬s.TakesChain (s.firingAt opening) i → ((s.chainsArrived opening).entry i).chainTaken = (s.entry i).chainTaken) := by
  have hnot := State.firingAt_not_targeted h
  have hchains := s.chained_chains opening
  have htakes := hchains.takes i h
  have hleft := hchains.left i fun hc => hnot ((s.readied_targeted opening i).mp hc)
  rw [State.readied_takesChain] at htakes hleft
  have hready := State.readied_fires h
  rw [State.chainsArrived_other fun hc => hnot hc.1]
  generalize (s.chained opening).entry i = c at *
  generalize (s.readied opening).entry i = e at *
  by_cases hc : s.TakesChain (s.firingAt opening) i
  · rw [htakes hc, hready]
    exact ⟨rfl, fun _ => rfl, fun hnot => absurd hc hnot⟩
  · rw [hleft fun _ => hc, hready]
    exact ⟨rfl, fun htakes => absurd htakes hc, fun _ => rfl⟩

theorem State.fired_closes (s : State) (opening : Round) :
    (s.chainsArrived opening).Closes (s.fired opening) ∧ ∀ j, (s.fired opening).entry j =
      if j ∈ s.firingAt opening then
        { (s.chainsArrived opening).entry j with
          state := .done
          outcome := some (if ((s.chainsArrived opening).entry j).late = true then .firedLate else .fired)
          reason := none, actualFire := some opening }
      else (s.chainsArrived opening).entry j := by
  refine State.foldl_closeFired opening (s.firingAt opening) ((s.firingAt_pairwise opening).imp fun h => Fin.ne_of_lt h)
    (s.chainsArrived opening) fun i hi => ?_
  rw [(State.chainsArrived_fires hi).1, State.firingAt_complete hi]
  decide

/-- A fired entry (R131, R133, R136). -/
theorem State.fired_fires {i : EntryIndex} (h : i ∈ s.firingAt opening) :
    (s.fired opening).entry i =
      { s.entry i with
        state := .done, outcome := some (if (s.entry i).late = true then .firedLate else .fired), reason := none
        actualFire := some opening, superseded := ((s.readied opening).entry i).superseded
        chainTaken := ((s.chainsArrived opening).entry i).chainTaken } := by
  rw [(s.fired_closes opening).2, if_pos h, (State.chainsArrived_fires h).1]

/-- A target that a chain arms (R104, R136). -/
theorem State.fired_armed {x : EntryIndex} (h : s.Targeted (s.firingAt opening) x) (hstaged : s.fullyStaged x = true) :
    (s.fired opening).entry x =
      { s.entry x with
        state := .armed, armRound := some opening
        arrived := decide ((s.entry x).record.condition = .immediate ∧ s.participates (s.entry x) = true)
        records := Vector.replicate 16 none, recordedLead := none, channelCount := 0#8 } := by
  have hnot : x ∉ s.firingAt opening := fun hmem => State.firingAt_not_targeted hmem h
  have hchained := (s.chained_chains opening).armed x ((s.readied_targeted opening x).mpr h)
    ((State.readied_staged h.1).trans hstaged)
  rw [State.readied_of_held h.1] at hchained
  rw [(s.fired_closes opening).2, if_neg hnot, State.chainsArrived, State.arriveChained_entry, hchained]
  by_cases harrives : (s.entry x).record.condition = .immediate ∧ s.participates (s.entry x) = true
  · rw [if_pos ((s.chained_arrives opening x).mpr ⟨h, hstaged, harrives⟩), decide_eq_true harrives]
    rfl
  · rw [if_neg fun hc => harrives ((s.chained_arrives opening x).mp hc).2.2, decide_eq_false harrives]
    rfl

/-- A target that is not staged (R137). -/
theorem State.fired_notStaged {x : EntryIndex} (h : s.Targeted (s.firingAt opening) x) (hstaged : s.fullyStaged x = false) :
    (s.fired opening).entry x =
      { s.entry x with state := .done, outcome := some .abandoned, reason := some .notStaged } := by
  have hnot : x ∉ s.firingAt opening := fun hmem => State.firingAt_not_targeted hmem h
  have hchained := (s.chained_chains opening).closed x ((s.readied_targeted opening x).mpr h)
    ((State.readied_staged h.1).trans hstaged)
  rw [State.readied_of_held h.1] at hchained
  rw [(s.fired_closes opening).2, if_neg hnot, State.chainsArrived_other fun hc => by simp [hstaged] at hc, hchained]

/-- Any other entry is as it stands behind the expiry. -/
theorem State.fired_other {x : EntryIndex} (hfires : x ∉ s.firingAt opening) (htarget : ¬s.Targeted (s.firingAt opening) x) :
    (s.fired opening).entry x = (s.readied opening).entry x := by
  rw [(s.fired_closes opening).2, if_neg hfires, State.chainsArrived_other fun hc => htarget hc.1,
    (s.chained_chains opening).left x (fun hc => htarget ((s.readied_targeted opening x).mp hc)) fun hmem => absurd hmem hfires]

/-! ### Announce queue, channels and completions behind it -/

theorem State.newly_or (hst : ∀ i, (s.entry i).state = .done → (t.entry i).state = .done)
    (htu : ∀ i, (t.entry i).state = .done → (u.entry i).state = .done) :
    s.newly u = fun i => s.newly t i || t.newly u i := by
  funext i
  have hs := hst i
  have ht := htu i
  rw [Bool.eq_iff_iff, Bool.or_eq_true, State.newly_iff, State.newly_iff, State.newly_iff]
  grind

theorem State.newly_congr_left {v : State} (h : ∀ i, (t.entry i).state = .done ↔ (s.entry i).state = .done) :
    t.newly v = s.newly v := by
  funext i
  rw [Bool.eq_iff_iff, State.newly_iff, State.newly_iff, ne_eq, ne_eq, h]

theorem State.newly_congr_right {v : State} (h : ∀ i, (t.entry i).state = .done ↔ (s.entry i).state = .done) :
    v.newly t = v.newly s := by
  funext i
  rw [Bool.eq_iff_iff, State.newly_iff, State.newly_iff, h]

theorem State.readied_done (s : State) (opening : Round) (i : EntryIndex) :
    ((s.readied opening).entry i).state = .done ↔ ((s.expireDue opening).entry i).state = .done := by
  rw [State.readied_entry, (s.readied_swaps opening).state]

theorem State.chainsArrived_done (s : State) (opening : Round) (i : EntryIndex) :
    ((s.chainsArrived opening).entry i).state = .done ↔ ((s.chained opening).entry i).state = .done := by
  rw [State.chainsArrived, State.arriveChained_entry]
  generalize s.chained opening = w
  split <;> exact Iff.rfl

/-- What closes at the boundary has expired, or is a target that is not staged, or has fired. -/
theorem State.fired_newly (s : State) (opening : Round) :
    s.newly (s.fired opening) = fun i =>
      (s.newly (s.expireDue opening) i || (s.readied opening).newly (s.chained opening) i) ||
        (s.chainsArrived opening).newly (s.fired opening) i := by
  have hexpired := (State.Closes.expireDue s opening).done
  have hchained := (s.chained_chains opening).closes.done
  have hfired := (s.fired_closes opening).1.done
  have hready (i : EntryIndex) (h : (s.entry i).state = .done) : ((s.readied opening).entry i).state = .done :=
    (s.readied_done opening i).mpr (hexpired i h)
  have harrived (i : EntryIndex) (h : ((s.readied opening).entry i).state = .done) :
      ((s.chainsArrived opening).entry i).state = .done :=
    (s.chainsArrived_done opening i).mpr (hchained i h)
  rw [State.newly_or (fun i h => harrived i (hready i h)) hfired, State.newly_or hready harrived,
    State.newly_congr_right (s.readied_done opening), State.newly_congr_right (s.chainsArrived_done opening)]

/-- Every channel takes its swap, and loses the pairs of what closes (R90, R132). -/
theorem State.fired_channel (s : State) (opening : Round) (k : ChannelIndex) :
    (s.fired opening).channel k =
      ((s.swapChannel (s.firingAt opening) k).channel k).shed (s.newly (s.fired opening)) := by
  have harrived : (s.chainsArrived opening).channel k = (s.chained opening).channel k :=
    State.channel_congr (arriveChained_keeps (s.readied opening) (s.chained opening) .channels (by decide)) k
  rw [(s.fired_closes opening).1.channel, harrived, (s.chained_chains opening).closes.channel, State.readied_channel,
    Channel.shed_shed, Channel.shed_shed, s.fired_newly opening]
  simp only [Bool.or_assoc]

/-- The targets that arrive join behind what stays of the announce queue (R28, R103). -/
theorem State.fired_announce (s : State) (opening : Round) :
    (s.fired opening).frames.announce =
      { uncarried := (s.frames.announce.uncarried.filter fun i => !s.newly (s.fired opening) i) ++
          allSixteen.filter fun i =>
            decide (((s.readied opening).entry i).state = .held) && (s.chained opening).arrivesAtOnce i
        carried := s.frames.announce.carried.filter fun i => !s.newly (s.fired opening) i } := by
  have hjoined : (allSixteen.filter fun i =>
        decide (((s.readied opening).entry i).state = .held) && (s.chained opening).arrivesAtOnce i).filter
          (fun i => !(s.chainsArrived opening).newly (s.fired opening) i) =
      allSixteen.filter fun i =>
        decide (((s.readied opening).entry i).state = .held) && (s.chained opening).arrivesAtOnce i := by
    refine List.filter_eq_self.mpr fun i hi => ?_
    have harrives := (List.mem_filter.mp hi).2
    rw [Bool.and_eq_true, decide_eq_true_iff, State.chained_arrives] at harrives
    rw [Bool.not_eq_true', ← Bool.not_eq_true, State.newly_iff, State.fired_armed harrives.1 harrives.2.1]
    exact fun hc => nomatch hc.2
  have hready : (s.readied opening).frames.announce = (s.frames.shed (s.newly (s.expireDue opening))).announce := by
    rw [State.readied_frames, (State.Closes.expireDue s opening).frames]
  have hchained : (s.chained opening).frames.announce =
      ((s.readied opening).frames.shed ((s.readied opening).newly (s.chained opening))).announce := by
    rw [(s.chained_chains opening).closes.frames]
  have hfired : (s.fired opening).frames.announce =
      ((s.chainsArrived opening).frames.shed ((s.chainsArrived opening).newly (s.fired opening))).announce := by
    rw [(s.fired_closes opening).1.frames]
  have harrived : (s.chainsArrived opening).frames.announce =
      { (s.chained opening).frames.announce with
        uncarried := (s.chained opening).frames.announce.uncarried ++
          allSixteen.filter fun i =>
            decide (((s.readied opening).entry i).state = .held) && (s.chained opening).arrivesAtOnce i } := by
    rw [State.chainsArrived, State.arriveChained_announce]
  rw [FrameLayer.shed] at hready hchained hfired
  rw [hfired, harrived, hchained, hready, s.fired_newly opening]
  simp only [List.filter_append, hjoined]
  simp only [List.filter_filter, Bool.not_or, Bool.and_comm, Bool.and_left_comm]

/-- Chains, arrivals and closes leave all but the table's own blocks alone. -/
theorem State.fired_keeps (s : State) (opening : Round) : Keeps closing (s.readied opening) (s.fired opening) := by
  have hchained : Keeps closing (s.readied opening) (s.chained opening) :=
    Keeps.foldl (takeChain_keeps opening) (s.readied opening) (s.firingAt opening)
  have harrived : Keeps closing (s.chained opening) (s.chainsArrived opening) :=
    (arriveChained_keeps (s.readied opening) (s.chained opening)).mono closing
  have hfired : Keeps closing (s.chainsArrived opening) (s.fired opening) :=
    Keeps.foldl (closeFired_keeps opening) (s.chainsArrived opening) (s.firingAt opening)
  exact (hchained.trans harrived).trans hfired

theorem State.fired_marker (s : State) (opening : Round) (k : MarkerIndex) :
    (s.fired opening).marker k = (s.readied opening).marker k := by
  rw [State.marker, s.fired_keeps opening .markers (by decide), State.marker]

/-- The completions of the boundary stand in ascending order behind those before it (R93, R139). -/
theorem State.tableBoundary_completions (s : State) (opening : Round) :
    (s.tableBoundary opening).completions = s.completions ++ allSixteen.filter (s.newly (s.fired opening)) := by
  have hfired : (s.fired opening).completions = s.completions :=
    (s.fired_keeps opening .completions (by decide)).trans (s.readied_keeps opening .completions (by decide))
  rw [State.tableBoundary_eq, State.appendClosed, State.setCompletions_completions, hfired]
  rfl

end

/-- The appends of a reaction touch nothing else. -/
theorem State.appendClosed_entry (s t : State) (i : EntryIndex) : (State.appendClosed s t).entry i = t.entry i := rfl
theorem State.appendClosed_channel (s t : State) (k : ChannelIndex) : (State.appendClosed s t).channel k = t.channel k := rfl
theorem State.appendClosed_marker (s t : State) (k : MarkerIndex) : (State.appendClosed s t).marker k = t.marker k := rfl
theorem State.appendClosed_frames (s t : State) : (State.appendClosed s t).frames = t.frames := rfl

/-- Settles O26, by the stages of the reaction: expiry, swaps and pulses, chains, arrivals, closes. -/
theorem tableBoundaryFiresAndExpires : Obligations.TableBoundaryFiresAndExpires := by
  intro s opening hsynced fires hfires
  have hmem (i : EntryIndex) : i ∈ s.firingAt opening ↔ fires i := by rw [State.mem_firingAt hsynced, hfires]
  have hentry (i : EntryIndex) : (s.tableBoundary opening).entry i = (s.fired opening).entry i := by
    rw [State.tableBoundary_eq, State.appendClosed_entry]
  have hcompletions := s.tableBoundary_completions opening
  have hcompleted {i : EntryIndex} (hnot : (s.entry i).state ≠ .done) (hdone : ((s.fired opening).entry i).state = .done) :
      i ∈ (s.tableBoundary opening).completions := by
    rw [hcompletions]
    exact List.mem_append_right _ (List.mem_filter.mpr ⟨mem_allSixteen i, (s.newly_iff _ i).mpr ⟨hnot, hdone⟩⟩)
  have htarget {i j : EntryIndex} (hi : fires i) (hchain : (s.entry i).record.chain = some j)
      (hheld : (s.entry j).state = .held) : s.Targeted (s.firingAt opening) j := ⟨hheld, i, (hmem i).mpr hi, hchain⟩
  have hmarker (k : MarkerIndex) : (s.tableBoundary opening).marker k =
      if ∃ i ∈ s.firingAt opening, (s.entry i).record.markers.getLsbD k.val = true then Marker.pulse else s.marker k := by
    rw [State.tableBoundary_eq, State.appendClosed_marker, s.fired_marker, s.readied_marker]
  refine ⟨fun i hi => ?_, fun i a harmed hdeadline harm hopens => ?_, fun i hi => ?_, fun k hk => ?_, ?_, fun closes hcloses => ?_,
    fun firing hsorted hsame k => ?_⟩
  · have hfired := State.fired_fires ((hmem i).mpr hi)
    obtain ⟨_, htakes, hleft⟩ := State.chainsArrived_fires ((hmem i).mpr hi)
    have hnot : (s.entry i).state ≠ .done := by rw [((hfires i).mp hi).1]; decide
    have hchain : ((s.fired opening).entry i).chainTaken = ((s.chainsArrived opening).entry i).chainTaken := by rw [hfired]
    rw [hentry]
    refine ⟨by rw [hfired], by rw [hfired], by rw [hfired], by rw [hfired], by rw [hfired], hcompleted hnot (by rw [hfired]),
      fun k hk => ?_, fun hnone => ?_, fun j hj => ⟨fun hheld hstaged => ?_, fun hheld hstaged => ?_, fun hheld hstaged hfirst => ?_,
        fun hleaves => ?_⟩⟩
    · rw [hmarker, if_pos ⟨i, (hmem i).mpr hi, hk⟩]
      rfl
    · rw [hchain, hleft]
      rintro ⟨j, hj, _⟩
      rw [hnone] at hj
      cases hj
    · have htargeted := htarget hi hj hheld
      refine ⟨by rw [hentry, State.fired_armed htargeted hstaged], fun himmediate hmember => ?_⟩
      rw [State.tableBoundary_eq, State.appendClosed_frames, State.fired_announce]
      refine List.mem_append_right _ (List.mem_filter.mpr ⟨mem_allSixteen j, ?_⟩)
      rw [Bool.and_eq_true, decide_eq_true_iff, State.chained_arrives]
      exact ⟨htargeted, hstaged, himmediate, hmember⟩
    · have hclosed := State.fired_notStaged (htarget hi hj hheld) hstaged
      exact ⟨by rw [hentry, hclosed], hcompleted (by rw [hheld]; decide) (by rw [hclosed])⟩
    · rw [hchain]
      exact htakes ⟨j, hj, hheld, hstaged, fun x hx hlt => hfirst x hlt ((hmem x).mp hx)⟩
    · rw [hchain]
      refine hleft ?_
      rintro ⟨x, hx, hheld, hstaged, hfirst⟩
      rw [hj, Option.some.injEq] at hx
      subst hx
      rcases hleaves with hnotHeld | hunstaged | ⟨x, hlt, hx, hrival⟩
      · exact hnotHeld hheld
      · rw [hunstaged] at hstaged
        cases hstaged
      · exact hfirst x ((hmem x).mpr hx) hlt hrival
  · have hexpires : (s.entry i).state = .armed ∧ (s.entry i).deadlineRound = some opening :=
      ⟨harmed, ((s.entry i).deadlineRound_iff opening).mpr ⟨hdeadline, a, harm, hopens⟩⟩
    have hexpired : (s.fired opening).entry i = { s.entry i with state := .done, outcome := some .expired, reason := none } := by
      rw [State.fired_other (fun h => ?_) (fun h => ?_), State.readied_expires hexpires]
      · have hcomplete := State.firingAt_complete h
        rw [harmed] at hcomplete
        cases hcomplete
      · have hheld := h.1
        rw [harmed] at hheld
        cases hheld
    exact ⟨by rw [hentry, hexpired], hcompleted (by rw [harmed]; decide) (by rw [hexpired])⟩
  · have hnotFires : i ∉ s.firingAt opening := fun h => by
      have hcomplete := (hfires i).mp ((hmem i).mp h)
      rcases hi with h | h | ⟨_, h⟩ | ⟨h, _⟩ | ⟨h, _⟩
      · exact absurd (hcomplete.1.symm.trans h) (by decide)
      · exact absurd (hcomplete.1.symm.trans h) (by decide)
      · exact h hcomplete.2
      · exact absurd (hcomplete.1.symm.trans h) (by decide)
      · exact absurd (hcomplete.1.symm.trans h) (by decide)
    have hnotTarget : ¬s.Targeted (s.firingAt opening) i := fun ⟨hheld, j, hj, hchain⟩ => by
      rcases hi with h | h | ⟨h, _⟩ | ⟨h, _⟩ | ⟨_, h⟩
      · exact absurd (hheld.symm.trans h) (by decide)
      · exact absurd (hheld.symm.trans h) (by decide)
      · exact absurd (hheld.symm.trans h) (by decide)
      · exact absurd (hheld.symm.trans h) (by decide)
      · exact h j ((hmem j).mp hj) hchain
    have hnotExpires : ¬((s.entry i).state = .armed ∧ (s.entry i).deadlineRound = some opening) := fun ⟨harmed, hdue⟩ => by
      obtain ⟨hdeadline, a, harm, hopens⟩ := ((s.entry i).deadlineRound_iff opening).mp hdue
      rcases hi with h | h | ⟨h, _⟩ | ⟨_, h⟩ | ⟨h, _⟩
      · exact absurd (harmed.symm.trans h) (by decide)
      · exact absurd (harmed.symm.trans h) (by decide)
      · exact absurd (harmed.symm.trans h) (by decide)
      · rcases h with h | h | ⟨b, hb, hother⟩
        · exact hdeadline h
        · rw [harm] at h
          cases h
        · rw [harm, Option.some.injEq] at hb
          exact hother (hb ▸ hopens)
      · exact absurd (harmed.symm.trans h) (by decide)
    rw [hentry, State.fired_other hnotFires hnotTarget, State.readied_same hnotFires hnotExpires]
  · rw [hmarker, if_neg]
    rintro ⟨i, hi, hbit⟩
    rw [hk i ((hmem i).mp hi)] at hbit
    cases hbit
  · exact ⟨_, hcompletions, allSixteen_filter_pairwise _⟩
  · have hnewly : s.newly (s.fired opening) = closes := by
      funext i
      rw [Bool.eq_iff_iff, State.newly_iff, hcloses, hentry]
    refine ⟨_, by rw [State.tableBoundary_eq, State.appendClosed_frames, State.fired_announce, hnewly], allSixteen_filter_pairwise _,
      fun j => ?_⟩
    have hwho : (∃ i ∈ s.firingAt opening, (s.entry i).record.chain = some j) ↔ ∃ i, fires i ∧ (s.entry i).record.chain = some j := by
      simp only [hmem]
    rw [List.mem_filter, Bool.and_eq_true, decide_eq_true_iff, State.chained_arrives, State.Targeted, hwho]
    exact ⟨fun ⟨_, ⟨hheld, hchain⟩, hstaged, himmediate, hmember⟩ => ⟨hheld, hstaged, himmediate, hmember, hchain⟩,
      fun ⟨hheld, hstaged, himmediate, hmember, hchain⟩ =>
        ⟨mem_allSixteen j, ⟨hheld, hchain⟩, hstaged, himmediate, hmember⟩⟩
  · have hfiring : firing = s.firingAt opening :=
      eq_of_ascending hsorted (s.firingAt_pairwise opening) fun i => (hsame i).trans (hmem i).symm
    rw [hfiring]
    refine ⟨fun c hc => ?_, fun i hi => ?_⟩
    · rw [State.tableBoundary_eq, State.appendClosed_channel, State.fired_channel, ← hc, Channel.shed]
      refine congrArg (fun l => { c with staged := l }) (List.filter_congr fun p _ => ?_)
      rw [Bool.eq_iff_iff, decide_eq_true_iff, State.appendClosed_entry, Bool.not_eq_true', ← Bool.not_eq_true,
        State.newly_iff, Decidable.not_and_iff_not_or_not, Decidable.not_not]
    · rw [hentry, State.fired_fires ((hmem i).mpr hi), ← State.readied_superseded ((hmem i).mpr hi) k]

end Sys2Proof.Machine
end

section
/-!
PROOFS about a negative correction: what skipping beats does to one channel, what it leaves of the station, and the three
commands that bring the opening of a slot about (O11).
-/

namespace Sys2Proof.Machine

-- One lemma after another: side by side, the evaluations of `decide` would each hold a thread.
set_option Elab.async false

variable {s t u : State}

/-! ### The order of the channels -/

theorem mem_distinctOf {α : Type} [DecidableEq α] (l : List α) (x : α) : x ∈ distinctOf l ↔ x ∈ l := by
  induction l with
  | nil => rfl
  | cons a l ih =>
    rw [distinctOf, List.mem_cons, List.mem_filter, ih, decide_eq_true_iff, List.mem_cons]
    by_cases h : x = a <;> simp [h]

theorem nodup_distinctOf {α : Type} [DecidableEq α] (l : List α) : (distinctOf l).Nodup := by
  induction l with
  | nil => exact List.nodup_nil
  | cons a l ih => exact List.nodup_cons.mpr ⟨fun h => by simpa using (List.mem_filter.mp h).2, ih.filter _⟩

theorem mem_channelOrder (order : List ChannelIndex) (k : ChannelIndex) : k ∈ channelOrder order := by
  rw [channelOrder, completeOrder, List.mem_append, mem_distinctOf]
  by_cases h : k ∈ order
  · exact .inl h
  · exact .inr (List.mem_filter.mpr ⟨mem_allChannels k, by simpa using h⟩)

theorem nodup_channelOrder (order : List ChannelIndex) : (channelOrder order).Nodup := by
  refine List.nodup_append.mpr ⟨nodup_distinctOf order, List.Pairwise.filter _ allChannels_nodup, fun k hk j hj hkj => ?_⟩
  have hnot := (List.mem_filter.mp hj).2
  rw [mem_distinctOf, hkj] at hk
  simp [hk] at hnot

/-! ### One beat of one channel -/

/-- The channel one beat further on, a change that it meets taken (R149, R150, R154). -/
def Channel.skipped (c : Channel) : Channel :=
  match c.nextChange with
  | none => { c.advance with owed := false }
  | some .phaseWaitEnd => c.phaseEnded
  | some .highToLow => c.fallen
  | some .periodEnd => c.periodEnded

/-- The same with forced state and pin following (R163). -/
def Channel.stepped (active : Bool) (c : Channel) : Channel := c.skipped.settle active

/-- The channel so many beats further on. -/
def Channel.steps (active : Bool) : Nat → Channel → Channel
  | 0, c => c
  | n + 1, c => (c.steps active n).stepped active

theorem Channel.steps_zero (a : Bool) (c : Channel) : c.steps a 0 = c := rfl

theorem Channel.steps_succ (a : Bool) (n : Nat) (c : Channel) : c.steps a (n + 1) = (c.steps a n).stepped a := rfl

theorem Channel.steps_add (a : Bool) (m n : Nat) (c : Channel) : c.steps a (m + n) = (c.steps a n).steps a m := by
  induction m with
  | zero => rw [Nat.zero_add, Channel.steps_zero]
  | succ m ih => rw [Nat.succ_add, Channel.steps_succ, Channel.steps_succ, ih]

theorem Channel.steps_succ_start (a : Bool) (n : Nat) (c : Channel) : c.steps a (n + 1) = (c.stepped a).steps a n :=
  Channel.steps_add a n 1 c

theorem State.advanceChannel_channel (s : State) (k j : ChannelIndex) :
    (s.advanceChannel k).channel j = if j = k then (s.channel k).stepped s.isActive else s.channel j := by
  obtain ⟨hwait, hfall, hend⟩ := (s.channel k).nextChange_iff
  unfold State.advanceChannel Channel.stepped Channel.skipped
  cases hnext : (s.channel k).nextChange with
  | none => exact s.channel_setChannel k j _
  | some change =>
    cases change with
    | phaseWaitEnd =>
      have hended : s.endPhaseWait k = s.setChannel k (s.channel k).phaseEnded := if_pos (hwait.mp hnext).1
      exact (congrArg (State.channel · j) hended).trans (s.channel_setChannel k j _)
    | highToLow =>
      obtain ⟨hrun, hroom, hhigh⟩ := hfall.mp hnext
      have hfallen : s.fall k = s.setChannel k (s.channel k).fallen := State.fall_ahead hrun (by omega) (by omega)
      exact (congrArg (State.channel · j) hfallen).trans (s.channel_setChannel k j _)
    | periodEnd => exact State.endPeriod_channel (hend.mp hnext).1 j

/-! ### What beats of the channels do to the table -/

/-- A period end changes arrival and count, and only those of an entry that waits on the channel (R107). -/
theorem Entry.countPeriod_frame (e : Entry) (k : ChannelIndex) (station : Station) :
    e.countPeriod k station =
      { e with
        arrived := (e.countPeriod k station).arrived, channelCount := (e.countPeriod k station).channelCount } := by
  by_cases h : e.waitsAt station = true ∧ ∃ n, e.record.condition = .channel k n
  · obtain ⟨hwaits, n, hcondition⟩ := h
    rw [Entry.countPeriod_counts hcondition hwaits]
  · rw [Entry.countPeriod_other]
    by_cases hwaits : e.waitsAt station = true
    · exact .inr fun n hn => h ⟨hwaits, n, hn⟩
    · exact .inl (Bool.not_eq_true _ ▸ hwaits)

/-- The entry waits on a CHANNEL condition (R103, R107). -/
def State.WaitsOnChannel (s : State) (i : EntryIndex) : Prop :=
  (s.entry i).state = .armed ∧ s.participates (s.entry i) = true ∧ (s.entry i).arrived = false ∧
    ∃ k n, (s.entry i).record.condition = .channel k n

/-- Period ends are delivered: entries that wait on CHANNEL conditions count and may arrive, and those that do join the
uncarried part (R28, R107). -/
structure State.Counts (s t : State) : Prop where
  keeps : Keeps closing s t
  entry : ∀ i, t.entry i =
    { s.entry i with arrived := (t.entry i).arrived, channelCount := (t.entry i).channelCount }
  other : ∀ i, ¬s.WaitsOnChannel i → t.entry i = s.entry i
  joins : ∃ l, t.frames = s.frames.join l ∧ l.Nodup ∧
    ∀ i, i ∈ l ↔ (s.entry i).arrived = false ∧ (t.entry i).arrived = true

namespace State.Counts

theorem of_table (h : Keeps [.channels] s t) : s.Counts t := by
  have hentry (i : EntryIndex) : t.entry i = s.entry i := State.entry_congr (h .entries (by decide)) i
  refine ⟨h.mono closing, fun i => by rw [hentry], fun i _ => hentry i, [], ?_, List.nodup_nil, fun i => ?_⟩
  · rw [FrameLayer.join_nil, h .frames (by decide)]
  · rw [hentry]
    exact ⟨fun hc => (nomatch hc), fun ⟨h, h'⟩ => by rw [h] at h'; cases h'⟩

theorem refl (s : State) : s.Counts s := .of_table (Keeps.refl _ s)

theorem trans (h : s.Counts t) (h' : t.Counts u) : s.Counts u := by
  have hwaits (i : EntryIndex) : t.WaitsOnChannel i → s.WaitsOnChannel i := by
    intro hw
    refine Classical.byContradiction fun hnot => ?_
    have hsame := h.other i hnot
    refine hnot ?_
    unfold State.WaitsOnChannel State.participates at hw ⊢
    rw [hsame, h.keeps .timer (by decide)] at hw
    exact hw
  have hstays (i : EntryIndex) (harrived : (t.entry i).arrived = true) : u.entry i = t.entry i :=
    h'.other i fun ⟨_, _, hw, _⟩ => by rw [harrived] at hw; cases hw
  have hstayed (i : EntryIndex) (harrived : (s.entry i).arrived = true) : t.entry i = s.entry i :=
    h.other i fun ⟨_, _, hw, _⟩ => by rw [harrived] at hw; cases hw
  obtain ⟨l, hframes, hnodup, hl⟩ := h.joins
  obtain ⟨l', hframes', hnodup', hl'⟩ := h'.joins
  refine ⟨h.keeps.trans h'.keeps, fun i => by rw [h'.entry i, h.entry i], fun i hnot => ?_, l ++ l', ?_, ?_, fun i => ?_⟩
  · rw [h'.other i fun hw => hnot (hwaits i hw), h.other i hnot]
  · rw [hframes', hframes, FrameLayer.join_join]
  · refine List.nodup_append.mpr ⟨hnodup, hnodup', fun i hi j hj hij => ?_⟩
    have harrived := ((hl i).mp hi).2
    rw [hij, ((hl' j).mp hj).1] at harrived
    cases harrived
  · rw [List.mem_append, hl, hl']
    cases hs : (s.entry i).arrived with
    | true =>
      have ht : (t.entry i).arrived = true := by rw [hstayed i hs, hs]
      simp [ht]
    | false =>
      cases ht : (t.entry i).arrived with
      | true =>
        have hu : (u.entry i).arrived = true := by rw [hstays i ht, ht]
        simp [hu]
      | false => simp

theorem ite {p : Prop} [Decidable p] (ht : s.Counts t) (hu : s.Counts u) : s.Counts (if p then t else u) := by
  split
  · exact ht
  · exact hu

theorem foldl {α : Type} {f : State → α → State} (hf : ∀ s a, State.Counts s (f s a)) (l : List α) (s : State) :
    s.Counts (l.foldl f s) := by
  induction l generalizing s with
  | nil => exact .refl s
  | cons a l ih => exact (hf s a).trans (ih (f s a))

theorem endPeriod (s : State) (k : ChannelIndex) : s.Counts (s.endPeriod k) := by
  by_cases hrun : (s.channel k).run = .running
  · obtain ⟨hentry, hframes⟩ := State.endPeriod_table hrun
    refine ⟨endPeriod_keeps s k, fun i => ?_, fun i hnot => ?_, _, hframes, List.Pairwise.filter _ allSixteen_nodup, fun i => ?_⟩
    · rw [hentry]
      exact (s.entry i).countPeriod_frame k s.timer.station
    · rw [hentry, Entry.countPeriod_other]
      by_cases hwaits : (s.entry i).waitsAt s.timer.station = true
      · obtain ⟨harmed, hmember, harrived⟩ := ((s.entry i).waitsAt_iff _).mp hwaits
        exact .inr fun n hn => hnot ⟨harmed, hmember, harrived, k, n, hn⟩
      · exact .inl (Bool.not_eq_true _ ▸ hwaits)
    · rw [List.mem_filter, Bool.and_eq_true, Bool.not_eq_true', hentry]
      exact and_iff_right (mem_allSixteen i)
  · rw [State.endPeriod_idle hrun]
    exact .refl s

theorem advanceChannel (s : State) (k : ChannelIndex) : s.Counts (s.advanceChannel k) := by
  have hset (c : Channel) : s.Counts (s.setChannel k c) := .of_table (setChannel_keeps s k c)
  unfold State.advanceChannel
  split
  · exact hset _
  · next change _ =>
    cases change with
    | phaseWaitEnd => exact .ite (hset _) (.refl s)
    | highToLow => exact .ite (hset _) (.refl s)
    | periodEnd => exact .endPeriod s k

end State.Counts

theorem State.takeOwed_keeps (s : State) (k : ChannelIndex) : Keeps closing s (s.takeOwed k) :=
  Keeps.ite (advanceChannel_keeps s k) (Keeps.refl _ s)

theorem State.Counts.skipBeats (s : State) (order : List ChannelIndex) (n : Nat) : s.Counts (s.skipBeats order n) := by
  have howed (s : State) (k : ChannelIndex) : s.Counts (s.takeOwed k) := .ite (.advanceChannel s k) (.refl s)
  exact (State.Counts.foldl howed order s).trans
    (.foldl (fun s _ => .foldl .advanceChannel order s) (List.range n) (order.foldl State.takeOwed s))

/-! ### What beats do to the channels -/

/-- Channels treated one after another, none twice, each by a change of its own. -/
theorem State.foldl_channel {f : State → ChannelIndex → State} {g : Bool → Channel → Channel}
    (hf : ∀ s k j, (f s k).channel j = if j = k then g s.isActive (s.channel k) else s.channel j)
    (hkeeps : ∀ s k, Keeps closing s (f s k)) (l : List ChannelIndex) (hl : l.Nodup) (s : State) (j : ChannelIndex) :
    (l.foldl f s).channel j = if j ∈ l then g s.isActive (s.channel j) else s.channel j := by
  induction l generalizing s with
  | nil => simp
  | cons k l ih =>
    obtain ⟨hk, hl⟩ := List.nodup_cons.mp hl
    have hactive : (f s k).isActive = s.isActive := by rw [State.isActive, hkeeps s k .line (by decide), State.isActive]
    rw [List.foldl_cons, ih hl, hactive, hf]
    by_cases hj : j = k
    · subst hj
      simp [hk]
    · simp [hj]

theorem State.takeOwed_channel (s : State) (k j : ChannelIndex) :
    (s.takeOwed k).channel j =
      if j = k then (if (s.channel k).owed = true then (s.channel k).stepped s.isActive else s.channel k)
      else s.channel j := by
  unfold State.takeOwed
  by_cases howed : (s.channel k).owed = true
  · rw [if_pos howed, if_pos howed, State.advanceChannel_channel]
  · rw [if_neg howed, if_neg howed]
    split
    · next h => rw [h]
    · rfl

theorem State.foldl_rounds (order : List ChannelIndex) (hnodup : order.Nodup) (hall : ∀ k, k ∈ order) (n : Nat) (s : State)
    (j : ChannelIndex) :
    ((List.range n).foldl (fun s _ => order.foldl State.advanceChannel s) s).channel j =
      Channel.steps s.isActive n (s.channel j) := by
  induction n with
  | zero => rfl
  | succ n ih =>
    have hkeeps : Keeps closing s ((List.range n).foldl (fun s _ => order.foldl State.advanceChannel s) s) :=
      Keeps.foldl (fun s _ => Keeps.foldl advanceChannel_keeps s order) s (List.range n)
    have hactive : ((List.range n).foldl (fun s _ => order.foldl State.advanceChannel s) s).isActive = s.isActive := by
      rw [State.isActive, hkeeps .line (by decide), State.isActive]
    rw [List.range_succ, List.foldl_append, List.foldl_cons, List.foldl_nil, Channel.steps_succ,
      State.foldl_channel State.advanceChannel_channel advanceChannel_keeps order hnodup, if_pos (hall j), hactive, ih]

/-- Every channel takes the change it owes, and then each beat (R154). -/
theorem State.skipBeats_channel (order : List ChannelIndex) (hnodup : order.Nodup) (hall : ∀ k, k ∈ order) (n : Nat) (s : State)
    (j : ChannelIndex) :
    (s.skipBeats order n).channel j =
      Channel.steps s.isActive (n + if (s.channel j).owed = true then 1 else 0) (s.channel j) := by
  have hkeeps : Keeps closing s (order.foldl State.takeOwed s) := Keeps.foldl State.takeOwed_keeps s order
  have hactive : (order.foldl State.takeOwed s).isActive = s.isActive := by
    rw [State.isActive, hkeeps .line (by decide), State.isActive]
  have howed := State.foldl_channel (g := fun a c => if c.owed = true then c.stepped a else c) State.takeOwed_channel
    State.takeOwed_keeps order hnodup s j
  rw [if_pos (hall j)] at howed
  rw [State.skipBeats, State.foldl_rounds order hnodup hall, hactive, howed]
  split
  · exact (Channel.steps_succ_start _ n _).symm
  · rfl

/-! ### Beats of one channel -/

section

variable {c : Channel} {a : Bool}

/-- The runtime state of a channel (R148). -/
structure ChannelRuntime where
  run : RunState
  phaseRemaining : Nat
  position : Nat
  periodsRemaining : Nat
  periodEnds : Counter

def Channel.runtime (c : Channel) : ChannelRuntime :=
  { run := c.run, phaseRemaining := c.phaseRemaining, position := c.position, periodsRemaining := c.periodsRemaining
    periodEnds := c.periodEnds }

/-- A beat leaves the active set and the queue, takes what is owed, and the pin follows (R163). -/
theorem Channel.stepped_frame (c : Channel) (a : Bool) :
    (c.stepped a).active = c.active ∧ (c.stepped a).staged = c.staged ∧ (c.stepped a).owed = false ∧ (c.stepped a).PinFits a := by
  have hskipped : c.skipped.active = c.active ∧ c.skipped.staged = c.staged ∧ c.skipped.owed = false := by
    unfold Channel.skipped
    split
    · unfold Channel.advance
      split <;> exact ⟨rfl, rfl, rfl⟩
    · exact ⟨rfl, rfl, rfl⟩
    · exact ⟨rfl, rfl, rfl⟩
    · rw [Channel.periodEnded_eq]
      exact ⟨rfl, rfl, rfl⟩
  exact ⟨hskipped.1, hskipped.2.1, hskipped.2.2, Channel.settle_pinFits _ _⟩

theorem Channel.stepped_still (h : c.run = .idle ∨ c.run = .finished) : (c.stepped a).runtime = c.runtime := by
  rcases h with h | h <;> simp [Channel.stepped, Channel.skipped, Channel.nextChange, Channel.advance, Channel.runtime, h]

theorem Channel.stepped_waits (hrun : c.run = .waiting) (h : 1 < c.phaseRemaining) :
    (c.stepped a).runtime = { c.runtime with phaseRemaining := c.phaseRemaining - 1 } := by
  simp [Channel.stepped, Channel.skipped, Channel.nextChange, Channel.advance, Channel.runtime, hrun, Nat.not_le.mpr h]

theorem Channel.stepped_starts (hrun : c.run = .waiting) (h : c.phaseRemaining ≤ 1) :
    (c.stepped a).runtime = { c.runtime with run := .running, phaseRemaining := 0, position := 0 } := by
  simp [Channel.stepped, Channel.skipped, Channel.nextChange, Channel.phaseEnded, Channel.runtime, hrun, h]

/-- Inside a period the position moves on, the fall included (R150). -/
theorem Channel.stepped_inside (hrun : c.run = .running) (h : c.position + 1 < c.active.period.toNat) :
    (c.stepped a).runtime = { c.runtime with position := c.position + 1 } := by
  by_cases hfall : c.position + 1 = c.active.high.toNat
  · simp [Channel.stepped, Channel.skipped, Channel.nextChange, Channel.fallen, Channel.runtime, hrun, Nat.not_le.mpr h, ← hfall]
  · simp [Channel.stepped, Channel.skipped, Channel.nextChange, Channel.advance, Channel.runtime, hrun, Nat.not_le.mpr h, hfall]

/-- At the end of a period the next begins, or the burst is finished (R150, R151). -/
theorem Channel.stepped_ends (hrun : c.run = .running) (h : c.active.period.toNat ≤ c.position + 1) :
    (c.stepped a).runtime =
      { c.runtime with
        periodEnds := bump c.periodEnds, position := 0
        run := if c.active.mode = .burst ∧ c.periodsRemaining ≤ 1 then .finished else .running
        periodsRemaining := if c.active.mode = .burst then c.periodsRemaining - 1 else c.periodsRemaining } := by
  simp [Channel.stepped, Channel.skipped, Channel.nextChange, Channel.periodEnded_eq, Channel.runtime, hrun, h]

theorem toNat_bump (c : Counter) : (bump c).toNat = min 65535 (c.toNat + 1) := by
  rw [bump_eq, BitVec.toNat_ofNat, Nat.mod_eq_of_lt (by omega)]

/-- One more beat of a row: quotient and remainder move by one, or wrap (R150). -/
theorem succ_div_mod {total p : Nat} (h : total % p + 1 < p) : (total + 1) / p = total / p ∧ (total + 1) % p = total % p + 1 := by
  have hdiv := Nat.div_add_mod total p
  have hsucc : total + 1 = total % p + 1 + p * (total / p) := by omega
  have hpos : 0 < p := by omega
  constructor
  · rw [hsucc, Nat.add_mul_div_left _ _ hpos, Nat.div_eq_of_lt h, Nat.zero_add]
  · rw [hsucc, Nat.add_mul_mod_self_left, Nat.mod_eq_of_lt h]

theorem succ_div_mod_wrap {total p : Nat} (hpos : 0 < p) (h : total % p + 1 = p) :
    (total + 1) / p = total / p + 1 ∧ (total + 1) % p = 0 := by
  have hdiv := Nat.div_add_mod total p
  have hsucc : total + 1 = p * (total / p + 1) := by rw [Nat.mul_add]; omega
  rw [hsucc]
  exact ⟨Nat.mul_div_cancel_left _ hpos, Nat.mul_mod_right _ _⟩

theorem Channel.steps_active (c : Channel) (a : Bool) (n : Nat) : (Channel.steps a n c).active = c.active := by
  induction n with
  | zero => rfl
  | succ n ih => rw [Channel.steps_succ, (Channel.stepped_frame _ a).1, ih]

theorem Channel.steps_staged (c : Channel) (a : Bool) (n : Nat) : (Channel.steps a n c).staged = c.staged := by
  induction n with
  | zero => rfl
  | succ n ih => rw [Channel.steps_succ, (Channel.stepped_frame _ a).2.1, ih]

theorem Channel.steps_still (h : c.run = .idle ∨ c.run = .finished) (n : Nat) :
    (Channel.steps a n c).runtime = c.runtime := by
  induction n with
  | zero => rfl
  | succ n ih =>
    have hrun : (Channel.steps a n c).run = c.run := congrArg ChannelRuntime.run ih
    rw [Channel.steps_succ, Channel.stepped_still (by rw [hrun]; exact h), ih]

theorem Channel.steps_waits (hrun : c.run = .waiting) {n : Nat} (h : n < c.phaseRemaining) :
    (Channel.steps a n c).runtime = { c.runtime with phaseRemaining := c.phaseRemaining - n } := by
  induction n with
  | zero => rfl
  | succ n ih =>
    have hbefore := ih (by omega)
    have hrun' : (Channel.steps a n c).run = .waiting := (congrArg ChannelRuntime.run hbefore).trans hrun
    have hphase : (Channel.steps a n c).phaseRemaining = c.phaseRemaining - n :=
      congrArg ChannelRuntime.phaseRemaining hbefore
    rw [Channel.steps_succ, Channel.stepped_waits hrun' (by omega), hbefore, hphase]
    simp only [Nat.sub_sub]

/-- The phase wait ends among the beats: the channel runs at position 0 (R149). -/
theorem Channel.steps_starts (hrun : c.run = .waiting) (h : 1 ≤ c.phaseRemaining) :
    (Channel.steps a c.phaseRemaining c).runtime = { c.runtime with run := .running, phaseRemaining := 0, position := 0 } := by
  obtain ⟨n, hn⟩ : ∃ n, c.phaseRemaining = n + 1 := ⟨c.phaseRemaining - 1, by omega⟩
  have hbefore := Channel.steps_waits (a := a) hrun (n := n) (by omega)
  have hrun' : (Channel.steps a n c).run = .waiting := (congrArg ChannelRuntime.run hbefore).trans hrun
  have hphase : (Channel.steps a n c).phaseRemaining = c.phaseRemaining - n := congrArg ChannelRuntime.phaseRemaining hbefore
  rw [hn, Channel.steps_succ, Channel.stepped_starts hrun' (by omega), hbefore]

/-- Behind the phase wait no beat touches what remained of it (R149). -/
theorem Channel.stepped_phase (h : c.run = .running ∨ c.run = .finished) :
    ((c.stepped a).run = .running ∨ (c.stepped a).run = .finished) ∧ (c.stepped a).phaseRemaining = c.phaseRemaining := by
  rcases h with hrun | hrun
  · rcases Nat.lt_or_ge (c.position + 1) c.active.period.toNat with hinside | hends
    · have hstep := Channel.stepped_inside (a := a) hrun hinside
      exact ⟨.inl ((congrArg ChannelRuntime.run hstep).trans hrun), congrArg ChannelRuntime.phaseRemaining hstep⟩
    · have hstep := Channel.stepped_ends (a := a) hrun hends
      refine ⟨?_, congrArg ChannelRuntime.phaseRemaining hstep⟩
      have hrun' := congrArg ChannelRuntime.run hstep
      split at hrun'
      · exact .inr hrun'
      · exact .inl hrun'
  · have hstep := Channel.stepped_still (a := a) (.inr hrun)
    exact ⟨.inr ((congrArg ChannelRuntime.run hstep).trans hrun), congrArg ChannelRuntime.phaseRemaining hstep⟩

theorem Channel.steps_phase (h : c.run = .running ∨ c.run = .finished) (n : Nat) :
    (Channel.steps a n c).phaseRemaining = c.phaseRemaining := by
  induction n generalizing c with
  | zero => rfl
  | succ n ih =>
    obtain ⟨hrun, hphase⟩ := Channel.stepped_phase (a := a) h
    rw [Channel.steps_succ_start, ih hrun, hphase]

/-- The beats of a running channel while its burst, if it is one, has periods left (R150, R151). -/
theorem Channel.steps_runs (hrun : c.run = .running) (hposition : c.position < c.active.period.toNat) (n : Nat)
    (hmore : c.active.mode ≠ .burst ∨ (c.position + n) / c.active.period.toNat < c.periodsRemaining) :
    (Channel.steps a n c).run = .running ∧ (Channel.steps a n c).phaseRemaining = c.phaseRemaining ∧
      (Channel.steps a n c).position = (c.position + n) % c.active.period.toNat ∧
      (Channel.steps a n c).periodsRemaining = c.periodsRemaining -
        (if c.active.mode = .burst then (c.position + n) / c.active.period.toNat else 0) ∧
      (Channel.steps a n c).periodEnds.toNat =
        min 65535 (c.periodEnds.toNat + (c.position + n) / c.active.period.toNat) := by
  induction n with
  | zero =>
    have hlt := c.periodEnds.isLt
    rw [Channel.steps_zero, Nat.add_zero, Nat.mod_eq_of_lt hposition, Nat.div_eq_of_lt hposition]
    exact ⟨hrun, rfl, rfl, by simp, by omega⟩
  | succ n ih =>
    have hpos : 0 < c.active.period.toNat := by omega
    have hmono : (c.position + n) / c.active.period.toNat ≤ (c.position + (n + 1)) / c.active.period.toNat :=
      Nat.div_le_div_right (by omega)
    obtain ⟨hrun', hphase, hplace, hperiods, hends⟩ := ih (hmore.imp_right fun h => by omega)
    have hactive := Channel.steps_active c a n
    have hnext : c.position + (n + 1) = c.position + n + 1 := rfl
    rw [Channel.steps_succ, hnext]
    rw [hnext] at hmore
    generalize Channel.steps a n c = d at *
    have hlt := Nat.mod_lt (c.position + n) hpos
    by_cases hinside : (c.position + n) % c.active.period.toNat + 1 < c.active.period.toNat
    · obtain ⟨hdiv, hmod⟩ := succ_div_mod hinside
      have hstep := Channel.stepped_inside (a := a) hrun' (by rw [hplace, hactive]; exact hinside)
      rw [hdiv, hmod, ← hperiods, ← hends, ← hplace, ← hphase]
      exact ⟨(congrArg ChannelRuntime.run hstep).trans hrun', congrArg ChannelRuntime.phaseRemaining hstep,
        congrArg ChannelRuntime.position hstep, congrArg ChannelRuntime.periodsRemaining hstep,
        congrArg (fun r : ChannelRuntime => r.periodEnds.toNat) hstep⟩
    · obtain ⟨hdiv, hmod⟩ := succ_div_mod_wrap hpos (total := c.position + n) (by omega)
      have hstep := Channel.stepped_ends (a := a) hrun' (by rw [hplace, hactive]; omega)
      rw [hactive] at hstep
      rw [hdiv] at hmore
      rw [hdiv, hmod]
      refine ⟨(congrArg ChannelRuntime.run hstep).trans (if_neg fun hlast => ?_),
        (congrArg ChannelRuntime.phaseRemaining hstep).trans hphase, congrArg ChannelRuntime.position hstep,
        (congrArg ChannelRuntime.periodsRemaining hstep).trans ?_,
        (congrArg (fun r : ChannelRuntime => r.periodEnds.toNat) hstep).trans ?_⟩
      · rcases hmore with hmode | hmore
        · exact hmode hlast.1
        · have hleft := hlast.2
          rw [hperiods, if_pos hlast.1] at hleft
          omega
      · by_cases hburst : c.active.mode = .burst
        · simp only [hburst, if_true] at hperiods ⊢
          omega
        · simp only [hburst, if_false] at hperiods ⊢
          omega
      · have hcount := toNat_bump d.periodEnds
        simp only [hcount, hends]
        omega

/-- The last period of a burst ends among the beats: the channel is FINISHED from there on (R151). -/
theorem Channel.steps_finishes (hrun : c.run = .running) (hposition : c.position < c.active.period.toNat)
    (hburst : c.active.mode = .burst) (hperiods : 1 ≤ c.periodsRemaining) (n : Nat)
    (hlast : c.periodsRemaining ≤ (c.position + n) / c.active.period.toNat) :
    (Channel.steps a n c).run = .finished ∧ (Channel.steps a n c).phaseRemaining = c.phaseRemaining ∧
      (Channel.steps a n c).position = 0 ∧ (Channel.steps a n c).periodsRemaining = 0 ∧
      (Channel.steps a n c).periodEnds.toNat = min 65535 (c.periodEnds.toNat + c.periodsRemaining) := by
  have hpos : 0 < c.active.period.toNat := by omega
  induction n with
  | zero =>
    rw [Nat.add_zero, Nat.div_eq_of_lt hposition] at hlast
    omega
  | succ n ih =>
    have hnext : c.position + (n + 1) = c.position + n + 1 := rfl
    rw [hnext] at hlast
    rw [Channel.steps_succ]
    by_cases hdone : c.periodsRemaining ≤ (c.position + n) / c.active.period.toNat
    · obtain ⟨hfinished, hrest⟩ := ih hdone
      have hstep := Channel.stepped_still (a := a) (.inr hfinished)
      generalize Channel.steps a n c = d at *
      obtain ⟨hphase, hplace, hleft, hends⟩ := hrest
      exact ⟨(congrArg ChannelRuntime.run hstep).trans hfinished, (congrArg ChannelRuntime.phaseRemaining hstep).trans hphase,
        (congrArg ChannelRuntime.position hstep).trans hplace, (congrArg ChannelRuntime.periodsRemaining hstep).trans hleft,
        (congrArg (fun r : ChannelRuntime => r.periodEnds.toNat) hstep).trans hends⟩
    · obtain ⟨hrun', hphase, hplace, hleft, hends⟩ :=
        Channel.steps_runs (a := a) hrun hposition n (.inr (Nat.not_le.mp hdone))
      have hactive := Channel.steps_active c a n
      rw [if_pos hburst] at hleft
      generalize Channel.steps a n c = d at *
      have hlt := Nat.mod_lt (c.position + n) hpos
      have hwrap : (c.position + n) % c.active.period.toNat + 1 = c.active.period.toNat := by
        refine Classical.byContradiction fun hne => ?_
        rw [(succ_div_mod (by omega)).1] at hlast
        exact hdone hlast
      rw [(succ_div_mod_wrap hpos hwrap).1] at hlast
      have hstep := Channel.stepped_ends (a := a) hrun' (by rw [hplace, hactive]; omega)
      rw [hactive] at hstep
      refine ⟨(congrArg ChannelRuntime.run hstep).trans (if_pos ⟨hburst, by omega⟩),
        (congrArg ChannelRuntime.phaseRemaining hstep).trans hphase, congrArg ChannelRuntime.position hstep,
        (congrArg ChannelRuntime.periodsRemaining hstep).trans ?_,
        (congrArg (fun r : ChannelRuntime => r.periodEnds.toNat) hstep).trans ?_⟩
      · simp only [hburst, if_true]
        omega
      · have hcount := toNat_bump d.periodEnds
        simp only [hcount, hends]
        omega

/-- From some beat on the channel runs: at once, or where its phase wait ends (R149). -/
theorem Channel.steps_reaches {n total : Nat} (hpos : 0 < c.active.period.toNat)
    (h : (c.run = .running ∧ c.position < c.active.period.toNat ∧ total = c.position + n) ∨
      (c.run = .waiting ∧ 1 ≤ c.phaseRemaining ∧ c.phaseRemaining ≤ n ∧ total = n - c.phaseRemaining)) :
    ∃ (m : Nat) (r : Channel), Channel.steps a n c = Channel.steps a m r ∧ r.run = .running ∧
      r.position < r.active.period.toNat ∧ total = r.position + m ∧ r.active = c.active ∧
      r.phaseRemaining = (if c.run = .waiting then 0 else c.phaseRemaining) ∧ r.periodsRemaining = c.periodsRemaining ∧
      r.periodEnds = c.periodEnds := by
  rcases h with ⟨hrun, hposition, htotal⟩ | ⟨hrun, hone, hless, htotal⟩
  · exact ⟨n, c, rfl, hrun, hposition, htotal, rfl, by rw [hrun, if_neg (by decide)], rfl, rfl⟩
  · have hstart := Channel.steps_starts (a := a) hrun hone
    have hactive := Channel.steps_active c a c.phaseRemaining
    have hsplit : Channel.steps a n c =
        Channel.steps a (n - c.phaseRemaining) (Channel.steps a c.phaseRemaining c) := by
      rw [← Channel.steps_add, Nat.sub_add_cancel hless]
    refine ⟨n - c.phaseRemaining, Channel.steps a c.phaseRemaining c, hsplit, congrArg ChannelRuntime.run hstart, ?_, ?_, hactive,
      (congrArg ChannelRuntime.phaseRemaining hstart).trans (by rw [if_pos hrun]), congrArg ChannelRuntime.periodsRemaining hstart,
      congrArg ChannelRuntime.periodEnds hstart⟩
    · have hplace : (Channel.steps a c.phaseRemaining c).position = 0 := congrArg ChannelRuntime.position hstart
      rw [hplace, hactive]
      exact hpos
    · have hplace : (Channel.steps a c.phaseRemaining c).position = 0 := congrArg ChannelRuntime.position hstart
      rw [hplace, Nat.zero_add]
      exact htotal

end

/-! ### The command that brings the opening about -/

theorem State.applyCorrection_none (h : s.timer.correction = none) (order : List ChannelIndex) : s.applyCorrection order = s := by
  rw [State.applyCorrection, h]

theorem State.applyCorrection_again (s : State) (order order' : List ChannelIndex) :
    (s.applyCorrection order).applyCorrection order' = s.applyCorrection order :=
  State.applyCorrection_none (by rw [State.applyCorrection_timer]) order'

theorem State.applyCorrection_skips {d : Int} (h : s.timer.correction = some d) (hd : d < 0) (order : List ChannelIndex) :
    s.applyCorrection order = (s.skipBeats order d.natAbs).setTimer { s.timer with correction := none } := by
  have htimer : (s.skipBeats order d.natAbs).timer = s.timer := skipBeats_keeps s order _ .timer (by decide)
  simp only [State.applyCorrection, h, if_pos hd, htimer]

theorem State.applyCorrection_reachOwnSlot (s : State) : (s.applyCorrection allChannels).reachOwnSlot = s.reachOwnSlot := by
  rw [State.reachOwnSlot, State.applyCorrection_again, State.reachOwnSlot]

theorem State.applyCorrection_reachRound (s : State) : (s.applyCorrection allChannels).reachRound = s.reachRound := by
  rw [State.reachRound, State.applyCorrection_again, State.reachRound]

/-- The commands that bring the opening of a slot about (R6, log entries 2 to 4). -/
def OpensSlot (c : Instr) (s : State) : Prop :=
  ((∃ order, c = .slotOpens order) ∧ s.timer.opening = false) ∨
    (c = .ownSlotOpens ∧ s.timer.station.val < s.timer.size ∧ (s.timer.slot ≠ s.timer.station ∨ s.timer.beat ≠ 0)) ∨
    ((∃ order, c = .roundBoundary order) ∧ s.timer.dueBoundary = none)

/-- The order in which such a command treats the channels. -/
def skipOrder : Instr → List ChannelIndex
  | .slotOpens order => channelOrder order
  | _ => allChannels

/-- Such a command applies the correction first, and then is what it is without one (R6, R9). -/
theorem exec_correction {c : Instr} (hrunning : s.resetHeld = false) (h : OpensSlot c s) :
    exec c s = exec c (s.applyCorrection (skipOrder c)) := by
  have hrunning' (order : List ChannelIndex) : (s.applyCorrection order).resetHeld = false :=
    (applyCorrection_keeps s order .resetHeld (by decide)).trans hrunning
  rcases h with ⟨⟨order, rfl⟩, hopening⟩ | ⟨rfl, hown, hbefore⟩ | ⟨⟨order, rfl⟩, hdue⟩
  · have htimer := s.applyCorrection_timer (channelOrder order)
    have hopening' : (s.applyCorrection (channelOrder order)).timer.opening = false := by rw [htimer]; exact hopening
    rw [skipOrder, exec_slotOpens hrunning, exec_slotOpens (hrunning' _), State.openSlot_opens hopening,
      State.openSlot_opens hopening', State.applyCorrection_again]
  · have hall : skipOrder .ownSlotOpens = allChannels := rfl
    have htimer := s.applyCorrection_timer allChannels
    have hown' : (s.applyCorrection allChannels).timer.station.val < (s.applyCorrection allChannels).timer.size := by
      rw [htimer]; exact hown
    have hbefore' : (s.applyCorrection allChannels).timer.slot ≠ (s.applyCorrection allChannels).timer.station ∨
        (s.applyCorrection allChannels).timer.beat ≠ 0 := by rw [htimer]; exact hbefore
    rw [hall, exec_ownSlotOpens_before hrunning hown hbefore, exec_ownSlotOpens_before (hrunning' _) hown' hbefore',
      State.applyCorrection_reachOwnSlot]
  · have hall : skipOrder (.roundBoundary order) = allChannels := rfl
    have htimer := s.applyCorrection_timer allChannels
    have hdue' : (s.applyCorrection allChannels).timer.dueBoundary = none := by rw [htimer]; exact hdue
    have hcarried : (s.applyCorrection allChannels).timer.carried = s.timer.carried := by rw [htimer]; rfl
    rw [hall, exec_roundBoundary hrunning, exec_roundBoundary (hrunning' _), State.takeBoundary, State.takeBoundary,
      State.beginBoundary_reached hdue, State.beginBoundary_reached hdue', State.applyCorrection_reachRound, hcarried]

theorem skipOrder_complete (c : Instr) : (skipOrder c).Nodup ∧ ∀ k, k ∈ skipOrder c := by
  unfold skipOrder
  split
  · exact ⟨nodup_channelOrder _, mem_channelOrder _⟩
  · exact ⟨allChannels_nodup, mem_allChannels⟩

/-- Whichever command brings the opening about: what it does then (R6). -/
theorem exec_answers {c : Instr} (hrunning : s.resetHeld = false) (h : OpensSlot c s) : ∃ t, exec c s = .next t := by
  rcases h with ⟨⟨order, rfl⟩, _⟩ | ⟨rfl, hown, _⟩ | ⟨⟨order, rfl⟩, _⟩
  · exact ⟨_, exec_slotOpens hrunning order⟩
  · exact ⟨_, exec_ownSlotOpens hrunning hown⟩
  · exact ⟨_, exec_roundBoundary hrunning order⟩

/-- What a negative correction leaves of the station (R10, R154). -/
theorem State.applyCorrection_whole {d : Int} (h : s.timer.correction = some d) (hd : d < 0) (order : List ChannelIndex) :
    ∃ l, s.applyCorrection order =
        { s with
          timer := { s.timer with correction := none }, channels := (s.applyCorrection order).channels
          entries := (s.applyCorrection order).entries
          frames :=
            { s.frames with announce := { s.frames.announce with uncarried := s.frames.announce.uncarried ++ l } } } ∧
      (∀ i, (s.applyCorrection order).entry i =
        { s.entry i with
          arrived := ((s.applyCorrection order).entry i).arrived
          channelCount := ((s.applyCorrection order).entry i).channelCount }) ∧
      (∀ i, ¬s.WaitsOnChannel i → (s.applyCorrection order).entry i = s.entry i) ∧ l.Nodup ∧
      ∀ i, i ∈ l ↔ (s.entry i).arrived = false ∧ ((s.applyCorrection order).entry i).arrived = true := by
  have hcounts := State.Counts.skipBeats s order d.natAbs
  rw [State.applyCorrection_skips h hd]
  generalize s.skipBeats order d.natAbs = w at hcounts
  obtain ⟨l, hframes, hnodup, hl⟩ := hcounts.joins
  have hwhole : w = { s with entries := w.entries, frames := w.frames, channels := w.channels } := hcounts.keeps.eq_taking
  rw [hframes] at hwhole
  exact ⟨l, congrArg (State.setTimer · { s.timer with correction := none }) hwhole, hcounts.entry, hcounts.other, hnodup, hl⟩

/-- SLOT_OPENS without a correction opens the next slot (R2, R6). -/
theorem exec_slotOpens_next {t : State} {order : List ChannelIndex} (hrunning : s.resetHeld = false)
    (hopening : s.timer.opening = false) (hcorrection : s.timer.correction = none)
    (h16 : s.timer.size ≤ 16) (ht : exec (.slotOpens order) s = .next t) :
    ∃ slot : Station, slot.val = (if s.timer.slot.val + 1 < s.timer.size then s.timer.slot.val + 1 else 0) ∧
      t = { s with
            timer :=
              { s.timer with
                round := if slot.val = 0 then s.timer.carried else s.timer.round
                slot := slot, beat := 0, correction := none
                boundary :=
                  if slot.val = 0 then some
                    { opening := s.timer.carried + 1#16, due := [.view, .peers, .line, .table], records := none }
                  else s.timer.dueBoundary
                ownOpening := decide (slot = s.timer.station) && decide (s.timer.station.val < s.timer.size) } } := by
  rw [exec_slotOpens hrunning, State.openSlot_hold hopening (by rw [hcorrection]; simp)] at ht
  injection ht with ht
  rw [← ht]
  rcases Nat.lt_or_ge (s.timer.slot.val + 1) s.timer.size with hinside | hbehind
  · have hval := RoundTimer.nextSlot_inside h16 hinside
    have hne : ¬s.timer.nextSlot.val = 0 := by omega
    refine ⟨s.timer.nextSlot, hval.trans (if_pos hinside).symm, ?_⟩
    rw [RoundTimer.openNext_inside (x := { s.timer with correction := none }) h16 hinside, if_neg hne, if_neg hne, ← hopening]
    rfl
  · have hval : s.timer.nextSlot.val = 0 := congrArg Fin.val (RoundTimer.nextSlot_behind hbehind)
    have hcomm : decide ((0 : Station) = s.timer.station) = decide (s.timer.station = 0) := decide_eq_decide.mpr eq_comm
    refine ⟨s.timer.nextSlot, hval.trans (if_neg (Nat.not_lt.mpr hbehind)).symm, ?_⟩
    rw [RoundTimer.openNext_behind (x := { s.timer with correction := none }) hbehind, if_pos hval, if_pos hval,
      RoundTimer.nextSlot_behind hbehind, hcomm, ← hopening]
    rfl

/-- OWN_SLOT_OPENS that brings its opening about opens the own slot and leaves channels and entries alone (R2, R6, R29). -/
theorem exec_ownSlotOpens_reaches {t : State} (hrunning : s.resetHeld = false) (hown : s.timer.station.val < s.timer.size)
    (hbefore : s.timer.slot ≠ s.timer.station ∨ s.timer.beat ≠ 0) (hcorrection : s.timer.correction = none)
    (ht : exec .ownSlotOpens s = .next t) :
    t.timer.slot = s.timer.station ∧ t.timer.beat = 0 ∧ t.timer.correction = none ∧ t.channels = s.channels ∧
      t.entries = s.entries := by
  have hnot : ¬(s.timer.slot = s.timer.station ∧ s.timer.beat = 0) := fun h => hbefore.elim (· h.1) (· h.2)
  rw [exec_ownSlotOpens hrunning hown, if_neg hnot] at ht
  injection ht with ht
  have hreach := s.reachOwnSlot_timer
  have hslot : s.reachOwnSlot.timer.slot = s.timer.station ∧ s.reachOwnSlot.timer.beat = 0 ∧
      s.reachOwnSlot.timer.correction = none := by
    rw [hreach]
    split
    · next hzero => exact ⟨hzero.symm, rfl, rfl⟩
    · exact ⟨rfl, rfl, rfl⟩
  have hblocks : s.reachOwnSlot.channels = s.channels ∧ s.reachOwnSlot.entries = s.entries := by
    rw [State.reachOwnSlot, State.applyCorrection_none hcorrection]
    exact ⟨rfl, rfl⟩
  generalize s.reachOwnSlot = w at ht hslot hblocks
  have htimer : w.takeOwnOpening.timer = { w.timer with ownOpening := false } := by
    cases hdue : w.timer.ownOpening with
    | false => rw [w.takeOwnOpening_taken hdue, ← hdue]
    | true => rw [State.takeOwnOpening, if_pos hdue, State.assemble_timer, State.setTimer_timer]
  have hchannels : w.takeOwnOpening.channels = w.channels := takeOwnOpening_keeps w .channels (by decide)
  have hentries : w.takeOwnOpening.entries = w.entries := takeOwnOpening_keeps w .entries (by decide)
  rw [← ht, htimer, hchannels, hentries]
  exact ⟨hslot.1, hslot.2.1, hslot.2.2, hblocks.1, hblocks.2⟩

/-- Settles O11: the correction is applied, and the rest of the command is as without one. -/
theorem negativeCorrectionSkipsChannels : Obligations.NegativeCorrectionSkipsChannels := by
  intro c s d hrunning hcorrection hd hopens
  have hexec := exec_correction hrunning hopens
  obtain ⟨t, ht⟩ := exec_answers hrunning hopens
  obtain ⟨hnodup, hall⟩ := skipOrder_complete c
  obtain ⟨l, hwhole, hentry, hother, hlist, hl⟩ := State.applyCorrection_whole hcorrection hd (skipOrder c)
  have hchannel (k : ChannelIndex) : (s.applyCorrection (skipOrder c)).channel k =
      Channel.steps s.isActive (d.natAbs + if (s.channel k).owed = true then 1 else 0) (s.channel k) := by
    have hskip := State.skipBeats_channel (skipOrder c) hnodup hall d.natAbs s k
    rw [State.applyCorrection_skips hcorrection hd]
    exact hskip
  have htimer := s.applyCorrection_timer (skipOrder c)
  have hrunning' : (s.applyCorrection (skipOrder c)).resetHeld = false :=
    (applyCorrection_keeps s (skipOrder c) .resetHeld (by decide)).trans hrunning
  generalize s.applyCorrection (skipOrder c) = u at *
  have hexec' : exec c u = .next t := hexec.symm.trans ht
  have hcorrection' : u.timer.correction = none := by rw [htimer]
  have hpos : 0 < d.natAbs := by omega
  refine ⟨t, u, l, ht, hexec', hwhole, fun order hc _ hsixteen => ?_, fun hc => ?_, fun order hc => ?_, hentry,
    fun i hi => hother i ?_, hlist, hl, fun k a b n ha hb hn => ?_⟩
  · subst hc
    have hopening : s.timer.opening = false := by simpa using hopens
    have hslot := exec_slotOpens_next hrunning' (by rw [htimer]; exact hopening) hcorrection'
      (by rw [htimer]; exact hsixteen) hexec'
    rw [htimer] at hslot
    exact hslot
  · subst hc
    have hown : s.timer.station.val < s.timer.size ∧ (s.timer.slot ≠ s.timer.station ∨ s.timer.beat ≠ 0) := by simpa using hopens
    have hslot := exec_ownSlotOpens_reaches hrunning' (by rw [htimer]; exact hown.1) (by rw [htimer]; exact hown.2) hcorrection' hexec'
    rw [htimer] at hslot
    exact hslot
  · subst hc
    have hdue : s.timer.dueBoundary = none := by simpa using hopens
    have hdue' : u.timer.dueBoundary = none := by rw [htimer]; exact hdue
    rw [exec_roundBoundary hrunning'] at hexec'
    injection hexec' with hexec'
    have hbegun := State.beginBoundary_reached_timer hdue'
    obtain ⟨_, _, hslot, hbeat, hnone⟩ :=
      State.foldl_react_timer order (s := u.beginBoundary) (congrArg RoundTimer.boundary hbegun) (by simp [Boundary.reached])
    rw [hbegun] at hslot hbeat hnone
    rw [← hexec', State.takeBoundary]
    exact ⟨hslot, hbeat, hnone⟩
  · rintro ⟨harmed, hmember, harrived, k, n, hcondition⟩
    rcases hi with h | h | h | h
    · exact h harmed
    · rw [h] at hmember
      cases hmember
    · rw [h] at harrived
      cases harrived
    · exact h k n hcondition
  · have hb' : b = Channel.steps s.isActive n a := by rw [hb, hchannel, hn, ha]
    obtain ⟨m, hm⟩ : ∃ m, n = m + 1 := ⟨n - 1, by omega⟩
    obtain ⟨_, _, howed, hpin⟩ := Channel.stepped_frame (Channel.steps s.isActive m a) s.isActive
    have hlast : Channel.stepped s.isActive (Channel.steps s.isActive m a) = b := by
      rw [hb', hm, Channel.steps_succ]
    rw [hlast] at howed hpin
    refine ⟨by rw [hb', Channel.steps_active], by rw [hb', Channel.steps_staged], howed, fun _ => hpin, fun hrun => ?_,
      fun hrun hless => ?_, fun total ends hperiod hplace hends => ?_⟩
    · have hstill := Channel.steps_still (a := s.isActive) hrun n
      rw [← hb'] at hstill
      exact ⟨congrArg ChannelRuntime.run hstill, congrArg ChannelRuntime.phaseRemaining hstill,
        congrArg ChannelRuntime.position hstill, congrArg ChannelRuntime.periodsRemaining hstill,
        congrArg ChannelRuntime.periodEnds hstill⟩
    · have hwaits := Channel.steps_waits (a := s.isActive) hrun hless
      rw [← hb'] at hwaits
      exact ⟨(congrArg ChannelRuntime.run hwaits).trans hrun, congrArg ChannelRuntime.phaseRemaining hwaits,
        congrArg ChannelRuntime.position hwaits, congrArg ChannelRuntime.periodsRemaining hwaits,
        congrArg ChannelRuntime.periodEnds hwaits⟩
    · obtain ⟨m, r, hr, hrun, hposition, htotal, hactive, hphase, hperiods, hcount⟩ :=
        Channel.steps_reaches (a := s.isActive) hperiod hplace
      rw [hr] at hb'
      rw [htotal, ← hactive] at hends
      rw [← hactive, ← hphase, ← hperiods, ← hcount, htotal, hends, hb']
      refine ⟨Channel.steps_phase (.inl hrun) m, fun hmore => ?_, fun hburst hone hlast => ?_⟩
      · obtain ⟨h1, _, h2, h3, h4⟩ := Channel.steps_runs (a := s.isActive) hrun hposition m hmore
        exact ⟨h1, h2, h3, h4⟩
      · obtain ⟨h1, _, h2, h3, h4⟩ := Channel.steps_finishes (a := s.isActive) hrun hposition hburst hone m hlast
        exact ⟨h1, h2, h3, h4⟩

end Sys2Proof.Machine
end

section
/-!
PROOFS about the bytes of arguments: words as their fields, and the configuration record, the channel set and the loaded
record, each accepted exactly as the layout of one in its ranges (Tables 49 to 51).
-/

namespace Sys2Proof.Machine

-- One lemma after another: side by side, the evaluations of `decide` would each hold a thread.
set_option Elab.async false

variable {s t u : State}

/-! ### Fields of words -/

/-- A word is its upper and its lower field. -/
theorem eq_append_iff (m n : Nat) {x : BitVec (m + n)} {a : BitVec m} {b : BitVec n} :
    x = a ++ b ↔ x.extractLsb' n m = a ∧ x.extractLsb' 0 n = b := by
  constructor
  · rintro rfl
    exact ⟨BitVec.extractLsb'_append_eq_left, BitVec.extractLsb'_append_eq_right⟩
  · rintro ⟨rfl, rfl⟩
    rw [BitVec.extractLsb'_append_extractLsb'_eq_extractLsb' (Nat.zero_add n).symm, BitVec.extractLsb'_eq_self]

/-- A field of a field is a field of the word. -/
theorem extractLsb'_extractLsb' {w first inner start len : Nat} (x : BitVec w) (h : start + len ≤ inner) :
    (x.extractLsb' first inner).extractLsb' start len = x.extractLsb' (first + start) len := by
  refine BitVec.eq_of_getLsbD_eq fun i hi => ?_
  have hinner : start + i < inner := by omega
  simp [hi, hinner, Nat.add_assoc]

/-- A word is its three fields. -/
theorem eq_append₃_iff (k m n : Nat) {x : BitVec (k + m + n)} {a : BitVec k} {b : BitVec m} {c : BitVec n} :
    x = a ++ b ++ c ↔ x.extractLsb' (m + n) k = a ∧ x.extractLsb' n m = b ∧ x.extractLsb' 0 n = c := by
  have hupper : (x.extractLsb' n (k + m)).extractLsb' m k = x.extractLsb' (m + n) k := by
    rw [extractLsb'_extractLsb' x (Nat.le_of_eq (Nat.add_comm m k)), Nat.add_comm n m]
  have hlower : (x.extractLsb' n (k + m)).extractLsb' 0 m = x.extractLsb' n m := by
    rw [extractLsb'_extractLsb' x (by omega), Nat.add_zero]
  rw [eq_append_iff (k + m) n, eq_append_iff k m, hupper, hlower, and_assoc]

/-- The three bytes of a 24-bit field. -/
theorem bytes24_iff (w : BitVec 24) (b1 b2 b3 : Byte) :
    b1 = w.extractLsb' 16 8 ∧ b2 = w.extractLsb' 8 8 ∧ b3 = w.extractLsb' 0 8 ↔ w = b1 ++ b2 ++ b3 := by
  rw [eq_append₃_iff 8 8 8, eq_comm, eq_comm (a := b2), eq_comm (a := b3)]

/-- The two bytes of a 16-bit field. -/
theorem bytes16_iff (w : BitVec 16) (b1 b2 : Byte) : b1 = w.extractLsb' 8 8 ∧ b2 = w.extractLsb' 0 8 ↔ w = b1 ++ b2 := by
  rw [eq_append_iff 8 8, eq_comm, eq_comm (a := b2)]

theorem bitOf_bit (b : Byte) (n : Nat) : b.extractLsb' n 1 = bitOf (bit b n) := by
  refine BitVec.eq_of_getLsbD_eq fun i hi => ?_
  obtain rfl : i = 0 := by omega
  simp [bitOf, bit]

theorem bitOf_inj {v w : Bool} : bitOf v = bitOf w ↔ v = w := by
  revert v w
  decide

/-! ### Sets and codes -/

theorem rateOfCode_eq_some {code : BitVec 3} {rate : LineRate} : rateOfCode code = some rate ↔ code = codeOfRate rate := by
  revert code
  cases rate <;> decide

theorem modeOfCode_eq {code : BitVec 2} {mode : PulseMode} : modeOfCode code = mode ↔ code = codeOfMode mode := by
  revert code
  cases mode <;> decide

/-- The ranges of a channel set, by its mode (Table 31). -/
theorem legalSet_iff (c : ChannelSet) :
    legalSet c = true ↔
      (c.mode ≠ .level → c.level = false) ∧
      (c.mode = .off ∨ c.mode = .level → c.period = 0#24 ∧ c.high = 0#24 ∧ c.phase = 0#16 ∧ c.count = 0#16) ∧
      (c.mode = .periodic ∨ c.mode = .burst → 2 ≤ c.period.toNat ∧ c.high.toNat ≤ c.period.toNat) ∧
      (c.mode = .periodic → c.count = 0#16) ∧ (c.mode = .burst → 1 ≤ c.count.toNat) := by
  cases h : c.mode with
  | off => simp [legalSet, h]
  | level => simp [legalSet, h]
  | periodic => simp [legalSet, h, and_assoc]
  | burst => simp [legalSet, h, and_assoc]

/-! ### The configuration record (Table 49) -/

theorem decodeSettings_iff (bytes : List Byte) (c : Settings) :
    decodeSettings bytes = some c ↔
      bytes = encodeSettings c ∧ 2 ≤ c.size ∧ c.size ≤ 16 ∧ 2 ≤ c.lossLimit ∧ c.lossLimit ≤ 7 ∧ c.defaultLead ≠ 0#4 := by
  unfold decodeSettings
  split
  · next b0 b1 b2 b3 =>
    have hsize : b0 = 0#3 ++ BitVec.ofNat 5 c.size ↔ b0.extractLsb' 5 3 = 0#3 ∧ b0.extractLsb' 0 5 = BitVec.ofNat 5 c.size :=
      eq_append_iff 3 5
    have hrate : b1 = 0#5 ++ codeOfRate c.rate ↔ b1.extractLsb' 3 5 = 0#5 ∧ b1.extractLsb' 0 3 = codeOfRate c.rate :=
      eq_append_iff 5 3
    have hlimit : b2 = BitVec.ofNat 4 c.lossLimit ++ c.defaultLead ↔
        b2.extractLsb' 4 4 = BitVec.ofNat 4 c.lossLimit ∧ b2.extractLsb' 0 4 = c.defaultLead := eq_append_iff 4 4
    have hbytes : [b0, b1, b2, b3] = encodeSettings c ↔
        (b0.extractLsb' 5 3 = 0#3 ∧ b0.extractLsb' 0 5 = BitVec.ofNat 5 c.size) ∧
          (b1.extractLsb' 3 5 = 0#5 ∧ b1.extractLsb' 0 3 = codeOfRate c.rate) ∧
          (b2.extractLsb' 4 4 = BitVec.ofNat 4 c.lossLimit ∧ b2.extractLsb' 0 4 = c.defaultLead) ∧ b3 = c.mask := by
      rw [← hsize, ← hrate, ← hlimit]
      simp only [encodeSettings, List.cons.injEq, and_true]
    have hnumber {w : Nat} (x : BitVec w) {n : Nat} (h : n < 2 ^ w) : x = BitVec.ofNat w n ↔ x.toNat = n := by
      rw [BitVec.toNat_eq, BitVec.toNat_ofNat, Nat.mod_eq_of_lt h]
    rw [hbytes]
    constructor
    · intro h
      split at h
      · cases h
      · next rate hcode =>
        rw [Option.ite_none_right_eq_some, Option.some.injEq] at h
        obtain ⟨⟨hspare0, hspare1, hrest⟩, rfl⟩ := h
        refine ⟨⟨⟨hspare0, ?_⟩, ⟨hspare1, rateOfCode_eq_some.mp hcode⟩, ⟨?_, rfl⟩, rfl⟩, hrest⟩
        · rw [BitVec.ofNat_toNat, BitVec.setWidth_eq]
        · rw [BitVec.ofNat_toNat, BitVec.setWidth_eq]
    · rintro ⟨⟨⟨hspare0, hsize⟩, ⟨hspare1, hrate⟩, ⟨hlimit, hlead⟩, hmask⟩, hrest⟩
      rw [hnumber _ (by omega)] at hsize hlimit
      rw [← hsize, ← hlimit, ← hlead] at hrest
      rw [rateOfCode_eq_some.mpr hrate]
      refine (if_pos ⟨hspare0, hspare1, hrest⟩).trans ?_
      rw [hsize, hlimit, hlead, hmask]
  · next hlength =>
    exact ⟨fun h => (Option.some_ne_none c h.symm).elim, fun ⟨h, _⟩ => (hlength _ _ _ _ h).elim⟩

/-! ### The channel set (Table 51) -/

/-- The first byte of a channel set is its fields. -/
theorem setByte_iff {b : Byte} {mode : PulseMode} {level invert guard safe : Bool} :
    b = codeOfMode mode ++ bitOf level ++ bitOf invert ++ bitOf guard ++ bitOf safe ++ 0#2 ↔
      modeOfCode (b.extractLsb' 6 2) = mode ∧ bit b 5 = level ∧ bit b 4 = invert ∧ bit b 3 = guard ∧ bit b 2 = safe ∧
        b.extractLsb' 0 2 = 0#2 := by
  have hfields : b = codeOfMode mode ++ bitOf level ++ bitOf invert ++ bitOf guard ++ bitOf safe ++ 0#2 ↔
      b.extractLsb' 2 6 = codeOfMode mode ++ bitOf level ++ bitOf invert ++ bitOf guard ++ bitOf safe ∧
        b.extractLsb' 0 2 = 0#2 := eq_append_iff 6 2
  have hsafe : b.extractLsb' 2 6 = codeOfMode mode ++ bitOf level ++ bitOf invert ++ bitOf guard ++ bitOf safe ↔
      _ ∧ _ ∧ _ := eq_append₃_iff 4 1 1
  have hlevel : (b.extractLsb' 2 6).extractLsb' 2 4 = codeOfMode mode ++ bitOf level ++ bitOf invert ↔ _ ∧ _ ∧ _ :=
    eq_append₃_iff 2 1 1
  rw [hfields, hsafe, hlevel]
  simp [extractLsb'_extractLsb', bitOf_bit, bitOf_inj, modeOfCode_eq, and_assoc]

theorem decodeSet_iff (bytes : List Byte) (c : ChannelSet) :
    decodeSet bytes = some c ↔ bytes = encodeSet c ∧ legalSet c = true := by
  unfold decodeSet
  split
  · next b0 b1 b2 b3 b4 b5 b6 b7 b8 b9 b10 =>
    have hbytes : [b0, b1, b2, b3, b4, b5, b6, b7, b8, b9, b10] = encodeSet c ↔
        b0 = codeOfMode c.mode ++ bitOf c.level ++ bitOf c.invert ++ bitOf c.guard ++ bitOf c.safe ++ 0#2 ∧
          c.period = b1 ++ b2 ++ b3 ∧ c.high = b4 ++ b5 ++ b6 ∧ c.phase = b7 ++ b8 ∧ c.count = b9 ++ b10 := by
      simp only [← bytes24_iff, ← bytes16_iff, encodeSet, bytes24, bytes16, List.cons_append, List.nil_append,
        List.cons.injEq, and_assoc, and_true]
    rw [hbytes, setByte_iff, Option.ite_none_right_eq_some, Option.some.injEq]
    constructor
    · rintro ⟨⟨hspare, hlegal⟩, rfl⟩
      exact ⟨⟨⟨rfl, rfl, rfl, rfl, rfl, hspare⟩, rfl, rfl, rfl, rfl⟩, hlegal⟩
    · obtain ⟨mode, level, period, high, phase, count, invert, guard, safe⟩ := c
      rintro ⟨⟨⟨rfl, rfl, rfl, rfl, rfl, hspare⟩, rfl, rfl, rfl, rfl⟩, hlegal⟩
      exact ⟨⟨hspare, hlegal⟩, rfl⟩
  · next hlength =>
    exact ⟨fun h => (Option.some_ne_none c h.symm).elim, fun ⟨h, _⟩ => (hlength _ _ _ _ _ _ _ _ _ _ _ h).elim⟩

/-! ### The loaded record (Table 50) -/

theorem decodeChain_iff (b : Byte) (chain : Option EntryIndex) : decodeChain b = some chain ↔ b = encodeChain chain := by
  constructor
  · intro h
    unfold decodeChain at h
    split at h
    · cases h
    · next hspare =>
      rw [Decidable.not_not] at hspare
      split at h
      · next hpresent =>
        obtain rfl := Option.some.inj h
        refine (eq_append₃_iff 1 3 4).mpr ⟨?_, hspare, rfl⟩
        exact (bitOf_bit b 7).trans (congrArg bitOf hpresent)
      · next habsent =>
        obtain ⟨hindex, h⟩ := Option.ite_none_right_eq_some.mp h
        obtain rfl := Option.some.inj h
        refine (eq_append₃_iff (x := b) 1 3 4 (a := 0#1) (b := 0#3) (c := 0#4)).mpr ⟨?_, hspare, hindex⟩
        exact (bitOf_bit b 7).trans (congrArg bitOf (Bool.eq_false_iff.mpr habsent))
  · rintro rfl
    cases chain with
    | none => rfl
    | some i =>
      revert i
      decide

/-- The upper three bits and the lower five of a byte of the condition (Table 50). -/
theorem codeByte_iff {b : Byte} {code : BitVec 3} {low : BitVec 5} :
    b = code ++ low ↔ b.extractLsb' 5 3 = code ∧ b.extractLsb' 0 5 = low := eq_append_iff 3 5

theorem triggerByte_iff {b : Byte} {edge input : BitVec 2} :
    b = 3#3 ++ edge ++ 0#1 ++ input ↔
      b.extractLsb' 5 3 = 3#3 ∧ b.extractLsb' 3 2 = edge ∧ bit b 2 = false ∧ b.extractLsb' 0 2 = input := by
  have hfields : b = 3#3 ++ edge ++ 0#1 ++ input ↔ _ ∧ _ ∧ _ := eq_append₃_iff 5 1 2
  have hupper : b.extractLsb' 3 5 = 3#3 ++ edge ↔ _ ∧ _ := eq_append_iff 3 2
  rw [hfields, hupper]
  simp only [extractLsb'_extractLsb' b (show 2 + 3 ≤ 5 by decide), extractLsb'_extractLsb' b (show 0 + 2 ≤ 5 by decide),
    bitOf_bit, show 0#1 = bitOf false from rfl, bitOf_inj, and_assoc]

theorem channelByte_iff {b : Byte} {k : BitVec 3} :
    b = 4#3 ++ 0#2 ++ k ↔ b.extractLsb' 5 3 = 4#3 ∧ b.extractLsb' 3 2 = 0#2 ∧ b.extractLsb' 0 3 = k := eq_append₃_iff 3 2 3

theorem encode_of_decodeCondition {b4 b5 : Byte} {c : ArrivalCondition} (h : decodeCondition b4 b5 = some c) :
    [b4, b5] = encodeCondition c ∧ ∀ k, c ≠ .channel k 0#8 := by
  unfold decodeCondition at h
  simp only at h
  split at h
  · next hcode =>
    obtain ⟨⟨hlow, rfl⟩, rfl⟩ := by simpa using h
    exact ⟨congrArg ([·, 0#8]) (codeByte_iff.mpr ⟨hcode, hlow⟩), nofun⟩
  split at h
  · next hcode =>
    obtain ⟨⟨hlow, rfl⟩, rfl⟩ := by simpa using h
    exact ⟨congrArg ([·, 0#8]) (codeByte_iff.mpr ⟨hcode, hlow⟩), nofun⟩
  split at h
  · next hcode =>
    obtain ⟨⟨hlow, rfl⟩, rfl⟩ := by simpa using h
    exact ⟨congrArg ([·, 0#8]) (codeByte_iff.mpr ⟨hcode, hlow⟩), nofun⟩
  split at h
  · next hcode =>
    rw [Option.ite_none_right_eq_some] at h
    obtain ⟨⟨hspare, rfl⟩, h⟩ := h
    have hedge {code : BitVec 2} (hedge : b4.extractLsb' 3 2 = code) :
        b4 = 3#3 ++ code ++ 0#1 ++ (BitVec.ofFin (b4.extractLsb' 0 2).toFin : BitVec 2) :=
      triggerByte_iff.mpr ⟨hcode, hedge, hspare, rfl⟩
    split at h
    · next hrising =>
      obtain rfl := Option.some.inj h
      exact ⟨congrArg ([·, 0#8]) (hedge hrising), nofun⟩
    split at h
    · next hfalling =>
      obtain rfl := Option.some.inj h
      exact ⟨congrArg ([·, 0#8]) (hedge hfalling), nofun⟩
    · obtain ⟨heither, h⟩ := Option.ite_none_right_eq_some.mp h
      obtain rfl := Option.some.inj h
      exact ⟨congrArg ([·, 0#8]) (hedge heither), nofun⟩
  · obtain ⟨hcode, h⟩ := Option.ite_none_right_eq_some.mp h
    obtain ⟨⟨hspare, hcount⟩, h⟩ := Option.ite_none_right_eq_some.mp h
    obtain rfl := Option.some.inj h
    refine ⟨congrArg ([·, b5]) (channelByte_iff.mpr ⟨hcode, hspare, rfl⟩), fun k hk => ?_⟩
    injection hk with _ hzero
    exact hcount hzero

theorem decodeCondition_iff (b4 b5 : Byte) (c : ArrivalCondition) :
    decodeCondition b4 b5 = some c ↔ [b4, b5] = encodeCondition c ∧ ∀ k, c ≠ .channel k 0#8 := by
  constructor
  · exact encode_of_decodeCondition
  · rintro ⟨hbytes, hcount⟩
    cases c with
    | none =>
      obtain ⟨rfl, rfl⟩ : b4 = 0x00#8 ∧ b5 = 0#8 := by simpa [encodeCondition] using hbytes
      rfl
    | immediate =>
      obtain ⟨rfl, rfl⟩ : b4 = 0x20#8 ∧ b5 = 0#8 := by simpa [encodeCondition] using hbytes
      rfl
    | command =>
      obtain ⟨rfl, rfl⟩ : b4 = 0x40#8 ∧ b5 = 0#8 := by simpa [encodeCondition] using hbytes
      rfl
    | trigger input edge =>
      obtain ⟨rfl, rfl⟩ : b4 = _ ∧ b5 = 0#8 := by simpa only [encodeCondition, List.cons.injEq, and_true] using hbytes
      revert input
      cases edge <;> decide
    | channel k n =>
      obtain ⟨hbyte, rfl⟩ : b4 = 4#3 ++ 0#2 ++ (BitVec.ofFin k : BitVec 3) ∧ b5 = n := by
        simpa only [encodeCondition, List.cons.injEq, and_true] using hbytes
      obtain ⟨hcode, hspare, hchannel⟩ := channelByte_iff.mp hbyte
      have hne : b5 ≠ 0#8 := fun hzero => hcount k (congrArg (ArrivalCondition.channel k) hzero)
      simp [decodeCondition, hcode, hspare, hchannel, hne]

theorem encodeCondition_pair (c : ArrivalCondition) : ∃ c4 c5, encodeCondition c = [c4, c5] := by
  cases c <;> exact ⟨_, _, rfl⟩

theorem decodeRecord_iff (bytes : List Byte) (r : LoadedRecord) :
    decodeRecord bytes = some r ↔ bytes = encodeRecord r ∧ ∀ k, r.condition ≠ .channel k 0#8 := by
  unfold decodeRecord
  split
  · next b0 b1 b2 b3 b4 b5 b6 b7 b8 b9 b10 b11 =>
    obtain ⟨c4, c5, hcondition⟩ := encodeCondition_pair r.condition
    have hbytes : [b0, b1, b2, b3, b4, b5, b6, b7, b8, b9, b10, b11] = encodeRecord r ↔
        b0 = 0#2 ++ r.number ∧ b1 = r.epoch ∧ r.participants = b2 ++ b3 ∧ [b4, b5] = encodeCondition r.condition ∧
          b6 = 0#3 ++ bitOf (decide (r.late = .apply)) ++ r.lead ∧ b7 = 0#4 ++ r.deadline.extractLsb' 8 4 ∧
          b8 = r.deadline.extractLsb' 0 8 ∧ b9 = r.channels ∧ b10 = 0#6 ++ r.markers ∧ b11 = encodeChain r.chain := by
      simp only [← bytes16_iff, encodeRecord, bytes16, hcondition, List.cons_append, List.nil_append, List.cons.injEq,
        and_assoc, and_true]
    have hnumber : b0 = 0#2 ++ r.number ↔ b0.extractLsb' 6 2 = 0#2 ∧ b0.extractLsb' 0 6 = r.number := eq_append_iff 2 6
    have hlate : b6 = 0#3 ++ bitOf (decide (r.late = .apply)) ++ r.lead ↔
        b6.extractLsb' 5 3 = 0#3 ∧ bit b6 4 = decide (r.late = .apply) ∧ b6.extractLsb' 0 4 = r.lead := by
      rw [← bitOf_inj, ← bitOf_bit]
      exact eq_append₃_iff 3 1 4
    have hhigh : b7 = 0#4 ++ r.deadline.extractLsb' 8 4 ↔
        b7.extractLsb' 4 4 = 0#4 ∧ b7.extractLsb' 0 4 = r.deadline.extractLsb' 8 4 := eq_append_iff 4 4
    have hdeadline : r.deadline = b7.extractLsb' 0 4 ++ b8 ↔
        r.deadline.extractLsb' 8 4 = b7.extractLsb' 0 4 ∧ r.deadline.extractLsb' 0 8 = b8 := eq_append_iff 4 8
    have hmarkers : b10 = 0#6 ++ r.markers ↔ b10.extractLsb' 2 6 = 0#6 ∧ b10.extractLsb' 0 2 = r.markers := eq_append_iff 6 2
    rw [hbytes, hnumber, hlate, hhigh, hmarkers]
    constructor
    · intro h
      split at h
      · next condition chain hcoded hchain =>
        rw [Option.ite_none_right_eq_some, Option.some.injEq] at h
        obtain ⟨⟨hspare0, hspare6, hspare7, hspare10⟩, rfl⟩ := h
        obtain ⟨hpair, hcount⟩ := (decodeCondition_iff b4 b5 condition).mp hcoded
        obtain ⟨htop, hlow⟩ := hdeadline.mp rfl
        refine ⟨⟨⟨hspare0, rfl⟩, rfl, rfl, hpair, ⟨hspare6, ?_, rfl⟩, ⟨hspare7, htop.symm⟩, hlow.symm, rfl, ⟨hspare10, rfl⟩,
          (decodeChain_iff b11 chain).mp hchain⟩, hcount⟩
        cases bit b6 4 <;> rfl
      · cases h
    · rintro ⟨⟨⟨hspare0, hnum⟩, hepoch, hparts, hpair, ⟨hspare6, hpolicy, hlead⟩, ⟨hspare7, htop⟩, hlow, hchannels,
        ⟨hspare10, hmarks⟩, hchain⟩, hcount⟩
      have hpolicy' : (if bit b6 4 then LatePolicy.apply else LatePolicy.skip) = r.late := by
        rw [hpolicy]
        cases r.late <;> rfl
      rw [(decodeCondition_iff b4 b5 r.condition).mpr ⟨hpair, hcount⟩, (decodeChain_iff b11 r.chain).mpr hchain]
      refine (if_pos ⟨hspare0, hspare6, hspare7, hspare10⟩).trans ?_
      rw [hnum, hepoch, ← hparts, hpolicy', hlead, ← hdeadline.mpr ⟨htop.symm, hlow.symm⟩, hchannels, hmarks]
  · next hlength =>
    refine ⟨fun h => (Option.some_ne_none r h.symm).elim, fun ⟨h, _⟩ => ?_⟩
    obtain ⟨c4, c5, hcondition⟩ := encodeCondition_pair r.condition
    rw [encodeRecord, hcondition] at h
    exact (hlength _ _ _ _ _ _ _ _ _ _ _ _ h).elim

/-- Settles O52: the layouts by evaluation, and each decoder by the fields of its bytes. -/
theorem argumentLayoutsAreExact : Obligations.ArgumentLayoutsAreExact := by
  refine ⟨rfl, rfl, rfl, fun _ _ => rfl, fun _ => rfl, fun _ _ => rfl, legalSet_iff, fun _ => rfl, fun _ => rfl, rfl,
    by decide, fun k n => ?_, ⟨rfl, by decide⟩, fun _ => rfl, decodeSettings_iff, decodeRecord_iff, decodeSet_iff⟩
  have hbyte : ∀ k : ChannelIndex, (4#3 ++ 0#2 ++ (BitVec.ofFin k : BitVec 3) : Byte) = BitVec.ofNat 8 (0x80 + k.val) := by decide
  exact congrArg (fun b => [b, n]) (hbyte k)

end Sys2Proof.Machine
end

section
/-!
PROOFS about frames on the line: the line code read back, the layouts of Tables 44 to 46 field by field, the decoder as the
inverse of the encoder, and what a reception is heard as (R18 to R21, R193).
-/

namespace Sys2Proof.Machine

-- One lemma after another: side by side, the evaluations of `decide` would each hold a thread.
set_option Elab.async false

variable {s t u : State}

/-! ### The line code -/

theorem beatBit_iff (b : LineBeat) (v : Bool) : beatBit b = some v ↔ b = codeBit v := by
  obtain ⟨first, second⟩ := b
  revert first second v
  decide

theorem map_beatBit_iff (l : List LineBeat) (v : List Bool) : l.map beatBit = v.map some ↔ l = v.map codeBit := by
  induction l generalizing v with
  | nil => cases v <;> simp
  | cons b l ih =>
    cases v with
    | nil => simp
    | cons x v => rw [List.map_cons, List.map_cons, List.map_cons, List.cons.injEq, List.cons.injEq, beatBit_iff, ih]

theorem startRecognised_iff (rate : LineRate) (rx : Reception) :
    startRecognised rate rx = true ↔ rx.rate = rate ∧ 8 ≤ rx.quietBefore ∧ startMark.map codeBit <+: rx.beats := by
  have hmark : (rx.beats.take 16).map beatBit = startMark.map some ↔ startMark.map codeBit <+: rx.beats := by
    rw [map_beatBit_iff, List.prefix_iff_eq_take, eq_comm]
    rfl
  simp only [startRecognised, Bool.and_eq_true, decide_eq_true_iff, hmark, and_assoc]
  rfl

theorem byteOfBits_byteBits (b : Byte) :
    byteOfBits (bit b 7) (bit b 6) (bit b 5) (bit b 4) (bit b 3) (bit b 2) (bit b 1) (bit b 0) = b := by
  revert b
  decide

theorem byteBits_byteOfBits (v7 v6 v5 v4 v3 v2 v1 v0 : Bool) :
    byteBits (byteOfBits v7 v6 v5 v4 v3 v2 v1 v0) = [v7, v6, v5, v4, v3, v2, v1, v0] := by
  revert v7 v6 v5 v4 v3 v2 v1 v0
  decide

/-- Behind the coded bits of a byte the reading goes on with the next byte. -/
theorem readBytes_byte (b : Byte) (rest : List LineBeat) :
    readBytes ((byteBits b).map codeBit ++ rest) = b :: readBytes rest := by
  have hbit (v : Bool) : beatBit (codeBit v) = some v := (beatBit_iff _ v).mpr rfl
  simp only [byteBits, List.map_cons, List.map_nil, List.cons_append, List.nil_append, readBytes, hbit, byteOfBits_byteBits]

/-- A byte that was read stands at the head in its coded bits. -/
theorem readBytes_eq_cons {l : List LineBeat} {b : Byte} {bytes : List Byte} (h : readBytes l = b :: bytes) :
    ∃ rest, l = (byteBits b).map codeBit ++ rest ∧ readBytes rest = bytes := by
  unfold readBytes at h
  split at h
  · split at h
    · next h7 h6 h5 h4 h3 h2 h1 h0 =>
      obtain ⟨rfl, hrest⟩ := List.cons.inj h
      rw [beatBit_iff] at h7 h6 h5 h4 h3 h2 h1 h0
      refine ⟨_, ?_, hrest⟩
      rw [byteBits_byteOfBits, h7, h6, h5, h4, h3, h2, h1, h0]
      rfl
    · cases h
  · cases h

/-- Whole bytes are read exactly where their coded bits stand (R20, R193). -/
theorem prefix_readBytes_iff (bytes : List Byte) (l : List LineBeat) :
    bytes <+: readBytes l ↔ (bytes.flatMap byteBits).map codeBit <+: l := by
  induction bytes generalizing l with
  | nil => exact iff_of_true List.nil_prefix List.nil_prefix
  | cons b bytes ih =>
    rw [List.flatMap_cons, List.map_append]
    constructor
    · rintro ⟨tail, htail⟩
      obtain ⟨rest, rfl, hrest⟩ := readBytes_eq_cons htail.symm
      exact (List.prefix_append_right_inj _).mpr ((ih rest).mp ⟨tail, hrest.symm⟩)
    · rintro ⟨tail, rfl⟩
      rw [List.append_assoc, readBytes_byte, List.cons_prefix_cons]
      exact ⟨rfl, (ih _).mpr (List.prefix_append _ _)⟩

theorem lineBeats_prefix_iff (bytes : List Byte) (beats : List LineBeat) :
    lineBeats bytes <+: beats ↔ startMark.map codeBit <+: beats ∧ bytes <+: readBytes (beats.drop 16) := by
  rw [prefix_readBytes_iff, lineBeats, List.map_append]
  constructor
  · rintro ⟨tail, rfl⟩
    refine ⟨⟨_, (List.append_assoc _ _ _).symm⟩, ⟨tail, ?_⟩⟩
    rw [List.append_assoc]
    rfl
  · rintro ⟨⟨rest, rfl⟩, hrest⟩
    exact (List.prefix_append_right_inj _).mpr hrest

/-! ### The layout of a frame -/

theorem kindOfCode_eq_some {code : BitVec 2} {kind : FrameKind} : kindOfCode code = some kind ↔ code = codeOfKind kind := by
  revert code
  cases kind <;> decide

/-- A field is its upper and its lower part. -/
theorem extractLsb'_split {w : Nat} (x : BitVec w) (start m n : Nat) :
    x.extractLsb' start (m + n) = x.extractLsb' (start + n) m ++ x.extractLsb' start n :=
  (BitVec.extractLsb'_append_extractLsb'_eq_extractLsb' rfl).symm

/-- The fields of the header word (Table 44). -/
theorem headerWord_fields (f : Frame) :
    (headerWord f).extractLsb' 46 2 = codeOfKind f.kind ∧ (headerWord f).extractLsb' 42 4 = BitVec.ofFin f.sender ∧
      (headerWord f).extractLsb' 38 4 = BitVec.ofNat 4 f.arrivals.length ∧ (headerWord f).extractLsb' 32 6 = 0#6 ∧
      (headerWord f).extractLsb' 16 16 = f.round ∧ (headerWord f).extractLsb' 0 16 = f.view := by
  obtain ⟨hfirst, hround, hview⟩ := (eq_append₃_iff 16 16 16 (x := headerWord f)).mp rfl
  obtain ⟨hnamed, hcount, hspare⟩ := (eq_append₃_iff 6 4 6).mp hfirst
  obtain ⟨hkind, hsender⟩ := (eq_append_iff 2 4).mp hnamed
  rw [extractLsb'_extractLsb' _ (by decide)] at hcount hspare
  rw [extractLsb'_extractLsb' _ (by decide), extractLsb'_extractLsb' _ (by decide)] at hkind hsender
  exact ⟨hkind, hsender, hcount, hspare, hround, hview⟩

/-- The fields of the word of an arrival entry (Table 46). -/
theorem arrivalWord_iff (w : BitVec 40) (a : ArrivalEntry) :
    w = arrivalWord a ↔
      w.extractLsb' 34 6 = a.number ∧ w.extractLsb' 26 8 = a.epoch ∧ w.extractLsb' 22 4 = a.lead ∧
        w.extractLsb' 6 16 = a.announce ∧ w.extractLsb' 0 6 = 0#6 := by
  have hlower : w = arrivalWord a ↔ _ ∧ _ ∧ _ := eq_append₃_iff 18 16 6
  have hupper : w.extractLsb' 22 18 = a.number ++ a.epoch ++ a.lead ↔ _ ∧ _ ∧ _ := eq_append₃_iff 6 8 4
  rw [hlower, hupper]
  simp only [extractLsb'_extractLsb', Nat.reduceAdd, Nat.reduceLeDiff, and_assoc]

/-- The bytes of a header, field by field (Table 44). -/
theorem encodeHeader_eq (f : Frame) (count sender : BitVec 4) (hcount : count = BitVec.ofNat 4 f.arrivals.length)
    (hsender : sender = BitVec.ofNat 4 f.sender.val) :
    encodeHeader f =
      [codeOfKind f.kind ++ sender ++ count.extractLsb' 2 2, count.extractLsb' 0 2 ++ 0#6, f.round.extractLsb' 8 8,
       f.round.extractLsb' 0 8, f.view.extractLsb' 8 8, f.view.extractLsb' 0 8] := by
  obtain ⟨hk, hs, hc, hspare, hround, hview⟩ := headerWord_fields f
  have hsender' : (BitVec.ofFin f.sender : BitVec 4) = sender := by rw [hsender, BitVec.ofFin_eq_ofNat]
  rw [hsender'] at hs
  rw [← hcount] at hc
  rw [← hk, ← hs, ← hc, ← hround, ← hview]
  have hfirst : (headerWord f).extractLsb' 40 8 =
      (headerWord f).extractLsb' 46 2 ++ (headerWord f).extractLsb' 42 4 ++ (headerWord f).extractLsb' 40 2 :=
    (extractLsb'_split _ 40 6 2).trans (congrArg (· ++ _) (extractLsb'_split _ 42 2 4))
  have hsecond : (headerWord f).extractLsb' 32 8 = (headerWord f).extractLsb' 38 2 ++ 0#6 :=
    (extractLsb'_split _ 32 2 6).trans (congrArg (_ ++ ·) hspare)
  simp only [extractLsb'_extractLsb', Nat.reduceAdd, Nat.reduceLeDiff]
  exact List.cons_eq_cons.mpr ⟨hfirst, List.cons_eq_cons.mpr ⟨hsecond, rfl⟩⟩

/-- The bytes of an arrival entry, field by field (Table 46). -/
theorem encodeArrival_eq (a : ArrivalEntry) :
    encodeArrival a =
      [a.number ++ a.epoch.extractLsb' 6 2, a.epoch.extractLsb' 0 6 ++ a.lead.extractLsb' 2 2,
       a.lead.extractLsb' 0 2 ++ a.announce.extractLsb' 10 6, a.announce.extractLsb' 2 8,
       a.announce.extractLsb' 0 2 ++ 0#6] := by
  obtain ⟨hnumber, hepoch, hlead, hannounce, hspare⟩ := (arrivalWord_iff _ a).mp rfl
  rw [← hnumber, ← hepoch, ← hlead, ← hannounce]
  simp only [extractLsb'_extractLsb', Nat.reduceAdd, Nat.reduceLeDiff]
  exact List.cons_eq_cons.mpr ⟨extractLsb'_split _ 32 6 2, List.cons_eq_cons.mpr ⟨extractLsb'_split _ 24 6 2,
    List.cons_eq_cons.mpr ⟨extractLsb'_split _ 16 2 6, List.cons_eq_cons.mpr ⟨rfl,
      congrArg (fun b => [b]) ((extractLsb'_split _ 0 2 6).trans (congrArg (_ ++ ·) hspare))⟩⟩⟩⟩

/-- Five bytes are an arrival entry exactly when their word is (Table 46). -/
theorem encodeArrival_iff (a : ArrivalEntry) (b0 b1 b2 b3 b4 : Byte) :
    [b0, b1, b2, b3, b4] = encodeArrival a ↔ b0 ++ b1 ++ b2 ++ b3 ++ b4 = arrivalWord a := by
  have hlower : arrivalWord a = b0 ++ b1 ++ b2 ++ b3 ++ b4 ↔ _ ∧ _ ∧ _ := eq_append₃_iff 24 8 8
  have hupper : (arrivalWord a).extractLsb' 16 24 = b0 ++ b1 ++ b2 ↔ _ ∧ _ ∧ _ := eq_append₃_iff 8 8 8
  rw [eq_comm (a := b0 ++ b1 ++ b2 ++ b3 ++ b4), hlower, hupper]
  simp only [extractLsb'_extractLsb', Nat.reduceAdd, Nat.reduceLeDiff, encodeArrival, List.cons.injEq, and_true, and_assoc,
    eq_comm]

theorem crcShift_eq (c : BitVec 16) :
    crcShift c = if c.getLsbD 15 = true then (c <<< 1) ^^^ 0x1021#16 else c <<< 1 := by
  rw [crcShift, BitVec.msb_eq_getLsbD_last]

theorem crc_concat (bytes : List Byte) (b : Byte) :
    crc (bytes ++ [b]) =
      (List.range 8).foldl
        (fun (r : BitVec 16) (_ : Nat) => if r.getLsbD 15 = true then (r <<< 1) ^^^ 0x1021#16 else r <<< 1)
        (crc bytes ^^^ (b ++ 0#8)) := by
  have hfun : (fun (r : BitVec 16) (_ : Nat) => if r.getLsbD 15 = true then (r <<< 1) ^^^ 0x1021#16 else r <<< 1) =
      fun r _ => crcShift r := funext fun r => funext fun _ => (crcShift_eq r).symm
  rw [hfun, crc, List.foldl_append]
  rfl

/-! ### Decoding a frame -/

/-- Five bytes more are one arrival entry more (R19, R21). -/
theorem decodeArrivals_cons (b0 b1 b2 b3 b4 : Byte) (rest : List Byte) (arrivals : List ArrivalEntry) :
    decodeArrivals (b0 :: b1 :: b2 :: b3 :: b4 :: rest) = some arrivals ↔
      ∃ a l, arrivals = a :: l ∧ [b0, b1, b2, b3, b4] = encodeArrival a ∧ a.lead ≠ 0#4 ∧ decodeArrivals rest = some l := by
  simp only [encodeArrival_iff]
  rw [decodeArrivals]
  generalize b0 ++ b1 ++ b2 ++ b3 ++ b4 = w
  simp only
  constructor
  · intro h
    split at h
    · cases h
    · next hlegal =>
      obtain ⟨hlead, hspare⟩ := not_or.mp hlegal
      split at h
      · next l hl =>
        obtain rfl := Option.some.inj h
        exact ⟨_, l, rfl, (arrivalWord_iff w _).mpr ⟨rfl, rfl, rfl, rfl, Decidable.not_not.mp hspare⟩, hlead, hl⟩
      · cases h
  · rintro ⟨a, l, rfl, hword, hlegal, hrest⟩
    obtain ⟨hnumber, hepoch, hlead, hannounce, hspare⟩ := (arrivalWord_iff w a).mp hword
    rw [hnumber, hepoch, hlead, hannounce, if_neg (not_or.mpr ⟨hlegal, not_not_intro hspare⟩), hrest]

theorem decodeArrivals_iff (l : List Byte) (arrivals : List ArrivalEntry) :
    decodeArrivals l = some arrivals ↔ l = arrivals.flatMap encodeArrival ∧ ∀ a ∈ arrivals, a.lead ≠ 0#4 := by
  induction arrivals generalizing l with
  | nil =>
    match l with
    | [] => exact iff_of_true rfl ⟨rfl, nofun⟩
    | b0 :: b1 :: b2 :: b3 :: b4 :: rest => rw [decodeArrivals_cons]; simp
    | [_] | [_, _] | [_, _, _] | [_, _, _, _] => simp [decodeArrivals]
  | cons a arrivals ih =>
    match l with
    | b0 :: b1 :: b2 :: b3 :: b4 :: rest =>
      have hbytes : b0 :: b1 :: b2 :: b3 :: b4 :: rest = (a :: arrivals).flatMap encodeArrival ↔
          [b0, b1, b2, b3, b4] = encodeArrival a ∧ rest = arrivals.flatMap encodeArrival := by
        rw [List.flatMap_cons]
        exact ⟨fun h => List.append_inj (s₁ := [b0, b1, b2, b3, b4]) h rfl, fun ⟨hfirst, hrest⟩ => by rw [← hfirst, hrest]; rfl⟩
      rw [decodeArrivals_cons, hbytes, List.forall_mem_cons]
      constructor
      · rintro ⟨a', l', heq, hfirst, hlead, hrest⟩
        obtain ⟨rfl, rfl⟩ := List.cons.inj heq
        obtain ⟨hbody, hleads⟩ := (ih rest).mp hrest
        exact ⟨⟨hfirst, hbody⟩, hlead, hleads⟩
      · rintro ⟨⟨hfirst, hbody⟩, hlead, hleads⟩
        exact ⟨a, arrivals, rfl, hfirst, hlead, (ih rest).mpr ⟨hbody, hleads⟩⟩
    | [] | [_] | [_, _] | [_, _, _] | [_, _, _, _] => simp [decodeArrivals, encodeArrival]

theorem encodeHeader_iff (f : Frame) (hcount : f.arrivals.length ≤ 8) (b0 b1 b2 b3 b4 b5 : Byte) :
    [b0, b1, b2, b3, b4, b5] = encodeHeader f ↔
      kindOfCode (b0.extractLsb' 6 2) = some f.kind ∧ (b0.extractLsb' 2 4).toFin = f.sender ∧
        arrivalCount b0 b1 = f.arrivals.length ∧ b1.extractLsb' 0 6 = 0#6 ∧ b2 ++ b3 = f.round ∧ b4 ++ b5 = f.view := by
  rw [encodeHeader_eq f _ _ rfl rfl]
  have hfirst : b0 = codeOfKind f.kind ++ BitVec.ofNat 4 f.sender.val ++
      (BitVec.ofNat 4 f.arrivals.length).extractLsb' 2 2 ↔ _ ∧ _ ∧ _ := eq_append₃_iff 2 4 2
  have hsecond : b1 = (BitVec.ofNat 4 f.arrivals.length).extractLsb' 0 2 ++ 0#6 ↔ _ ∧ _ := eq_append_iff 2 6
  have hcounted : BitVec.ofNat 4 f.arrivals.length = b0.extractLsb' 0 2 ++ b1.extractLsb' 6 2 ↔ _ ∧ _ := eq_append_iff 2 2
  have hsender : b0.extractLsb' 2 4 = BitVec.ofNat 4 f.sender.val ↔ (b0.extractLsb' 2 4).toFin = f.sender := by
    have hfin : (BitVec.ofFin f.sender : BitVec 4) = BitVec.ofNat 4 f.sender.val := by rw [BitVec.ofFin_eq_ofNat]
    rw [← hfin]
    exact ⟨fun h => congrArg BitVec.toFin h, fun h => congrArg BitVec.ofFin h⟩
  have hcount' : arrivalCount b0 b1 = f.arrivals.length ↔
      BitVec.ofNat 4 f.arrivals.length = b0.extractLsb' 0 2 ++ b1.extractLsb' 6 2 := by
    rw [arrivalCount, BitVec.toNat_eq, BitVec.toNat_ofNat, Nat.mod_eq_of_lt (by omega), eq_comm]
  simp only [List.cons.injEq, and_true]
  rw [hfirst, hsecond, hcount', hcounted, ← hsender, kindOfCode_eq_some, eq_comm (b := f.round), eq_comm (b := f.view),
    ← bytes16_iff, ← bytes16_iff]
  constructor
  · rintro ⟨⟨hkind, hsent, hhigh⟩, ⟨hlow, hspare⟩, h2, h3, h4, h5⟩
    exact ⟨hkind, hsent, ⟨hhigh.symm, hlow.symm⟩, hspare, ⟨h2, h3⟩, h4, h5⟩
  · rintro ⟨hkind, hsent, ⟨hhigh, hlow⟩, hspare, ⟨h2, h3⟩, h4, h5⟩
    exact ⟨⟨hkind, hsent, hhigh.symm⟩, ⟨hlow.symm, hspare⟩, h2, h3, h4, h5⟩

theorem flatMap_encodeArrival_length (arrivals : List ArrivalEntry) :
    (arrivals.flatMap encodeArrival).length = 5 * arrivals.length :=
  length_flatMap_of_length (f := encodeArrival) (fun _ => rfl) arrivals

/-- The bytes of a frame stand at the head: its header, its arrival entries, and their CRC (R193). -/
theorem encodeFrame_prefix_iff (f : Frame) (b0 b1 b2 b3 b4 b5 : Byte) (rest : List Byte) :
    encodeFrame f <+: b0 :: b1 :: b2 :: b3 :: b4 :: b5 :: rest ↔
      [b0, b1, b2, b3, b4, b5] = encodeHeader f ∧ rest.take (5 * f.arrivals.length) = f.arrivals.flatMap encodeArrival ∧
        (rest.drop (5 * f.arrivals.length)).take 2 = bytes16 (crc (frameBody f)) := by
  have hlength := flatMap_encodeArrival_length f.arrivals
  have hframe : encodeFrame f = encodeHeader f ++ (f.arrivals.flatMap encodeArrival ++ bytes16 (crc (frameBody f))) :=
    List.append_assoc _ _ _
  constructor
  · rintro ⟨tail, htail⟩
    rw [hframe, List.append_assoc, List.append_assoc] at htail
    obtain ⟨hheader, hrest⟩ := List.append_inj (s₂ := [b0, b1, b2, b3, b4, b5]) htail rfl
    refine ⟨hheader.symm, ?_, ?_⟩
    · rw [← hrest, ← hlength, List.take_left]
    · rw [← hrest, ← hlength, List.drop_left]
      rfl
  · rintro ⟨hheader, hentries, hcrc⟩
    refine ⟨(rest.drop (5 * f.arrivals.length)).drop 2, ?_⟩
    rw [hframe, ← hheader, ← hentries, ← hcrc, List.append_assoc, List.append_assoc, List.take_append_drop,
      List.take_append_drop]
    rfl

/-- A frame is decoded exactly where its bytes stand at the head (R18 to R21). -/
theorem decodeFrame_iff (l : List Byte) (f : Frame) :
    decodeFrame l = some f ↔ f.arrivals.length ≤ 8 ∧ (∀ a ∈ f.arrivals, a.lead ≠ 0#4) ∧ encodeFrame f <+: l := by
  unfold decodeFrame
  split
  · next b0 b1 b2 b3 b4 b5 rest =>
    simp only
    constructor
    · intro h
      split at h
      · cases h
      · next hroom =>
        obtain ⟨hmost, henough⟩ := not_or.mp hroom
        split at h
        · cases h
        · next hcrc =>
          rw [Decidable.not_not] at hcrc
          split at h
          · next kind arrivals hkind harrivals =>
            split at h
            · cases h
            · next hspare =>
              obtain rfl := Option.some.inj h
              obtain ⟨hentries, hleads⟩ := (decodeArrivals_iff _ arrivals).mp harrivals
              have hlength : arrivals.length = arrivalCount b0 b1 := by
                have hcongr := congrArg List.length hentries
                rw [flatMap_encodeArrival_length, List.length_take] at hcongr
                omega
              have hcount : arrivals.length ≤ 8 := hlength ▸ Nat.le_of_not_lt hmost
              have hheader : [b0, b1, b2, b3, b4, b5] = encodeHeader _ :=
                (encodeHeader_iff ⟨kind, (b0.extractLsb' 2 4).toFin, b2 ++ b3, b4 ++ b5, arrivals⟩ hcount ..).mpr
                  ⟨hkind, rfl, hlength.symm, Decidable.not_not.mp hspare, rfl, rfl⟩
              refine ⟨hcount, hleads, (encodeFrame_prefix_iff _ _ _ _ _ _ _ _).mpr ⟨hheader, ?_, ?_⟩⟩
              · rw [hlength, hentries]
              · rw [hlength, hcrc, hentries, frameBody, ← hheader]
                rfl
          · cases h
    · rintro ⟨hcount, hleads, hprefix⟩
      obtain ⟨hheader, hentries, hcrc⟩ := (encodeFrame_prefix_iff f b0 b1 b2 b3 b4 b5 rest).mp hprefix
      obtain ⟨hkind, hsender, hcounted, hspare, hround, hview⟩ := (encodeHeader_iff f hcount b0 b1 b2 b3 b4 b5).mp hheader
      have henough : 5 * f.arrivals.length + 2 ≤ rest.length := by
        have hcongr := congrArg List.length hcrc
        rw [List.length_take, List.length_drop, show (bytes16 (crc (frameBody f))).length = 2 from rfl] at hcongr
        omega
      have hbody : b0 :: b1 :: b2 :: b3 :: b4 :: b5 :: f.arrivals.flatMap encodeArrival = frameBody f := by
        rw [frameBody, ← hheader]
        rfl
      have hroom : ¬(Config.maxArrivals < f.arrivals.length ∨ rest.length < 5 * f.arrivals.length + 2) :=
        not_or.mpr ⟨Nat.not_lt.mpr hcount, by omega⟩
      rw [hcounted, if_neg hroom, hentries, hbody, if_neg (not_not_intro hcrc), hkind,
        (decodeArrivals_iff _ f.arrivals).mpr ⟨rfl, hleads⟩]
      simp only
      rw [if_neg (not_not_intro hspare), hsender, hround, hview]
  · next hshort =>
    exact ⟨fun h => (Option.some_ne_none f h.symm).elim, fun ⟨_, _, tail, htail⟩ => (hshort _ _ _ _ _ _ _ htail.symm).elim⟩

/-! ### What is heard -/

theorem hear_activity {rate : LineRate} {rx : Reception}
    (h : rx.beforeJump = true ∨ rx.meetsOwn = true ∨ startRecognised rate rx = false) : hear rate rx = .activity := by
  rw [hear, if_pos h]

/-- Behind a start mark a frame is heard where the bytes are one's (R20, R21). -/
theorem hear_frame_iff {rate : LineRate} {rx : Reception}
    (h : ¬(rx.beforeJump = true ∨ rx.meetsOwn = true ∨ startRecognised rate rx = false)) (f : Frame) :
    hear rate rx = .frame f ↔ decodeFrame (readBytes (rx.beats.drop 16)) = some f := by
  rw [hear, if_neg h]
  cases decodeFrame (readBytes (rx.beats.drop 16)) <;> simp

/-- Behind a start mark what is no frame is bad (R21). -/
theorem hear_bad {rate : LineRate} {rx : Reception}
    (h : ¬(rx.beforeJump = true ∨ rx.meetsOwn = true ∨ startRecognised rate rx = false)) (hno : ∀ f, hear rate rx ≠ .frame f) :
    hear rate rx = .bad := by
  have hnone : decodeFrame (readBytes (rx.beats.drop 16)) = none :=
    Option.eq_none_iff_forall_ne_some.mpr fun f hf => hno f ((hear_frame_iff h f).mpr hf)
  rw [hear, if_neg h, hnone]

/-- Settles O21: reading inverts the line code, and decoding inverts the layout of a frame. -/
theorem sentFrameIsHeard : Obligations.SentFrameIsHeard := by
  refine ⟨fun rate rx starts hstarts => ?_, ⟨rfl, rfl⟩, rfl, fun _ => rfl, fun _ => rfl, rfl, encodeHeader_eq,
    encodeArrival_eq, fun f body hbody => ?_, rfl, crc_concat⟩
  · have hstarted : starts = true ↔ ¬(rx.beforeJump = true ∨ rx.meetsOwn = true ∨ startRecognised rate rx = false) := by
      rw [hstarts, not_or, not_or, Bool.not_eq_false, Bool.not_eq_true, Bool.not_eq_true, startRecognised_iff]
      exact ⟨fun ⟨hrate, hquiet, hjump, hown, hmark⟩ => ⟨hjump, hown, hrate, hquiet, hmark⟩,
        fun ⟨hjump, hown, hrate, hquiet, hmark⟩ => ⟨hrate, hquiet, hjump, hown, hmark⟩⟩
    have hsilent (h : starts = false) : hear rate rx = .activity :=
      hear_activity (Decidable.not_not.mp fun hno => Bool.false_ne_true (h.symm.trans (hstarted.mpr hno)))
    refine ⟨hsilent, fun f => ?_, fun h => hear_bad (hstarted.mp h)⟩
    cases hvalue : starts with
    | false =>
      rw [hsilent hvalue]
      simp
    | true =>
      have hmark := (hstarts.mp hvalue).2.2.2.2
      rw [hear_frame_iff (hstarted.mp hvalue), decodeFrame_iff, lineBeats_prefix_iff]
      simp [hmark]
  · rw [encodeFrame, frameBody, hbody, bytes16]

end Sys2Proof.Machine
end
